-- ==== Sys2Proof/Word.lean ====
section
/-! DEFINITION. The byte of the field lines and the numbers by which the part names its districts, bays, pumps, intakes
and plan banks (00_scope.md, Names). -/

namespace Sys2Proof

/-- A character of a field line carries eight data bits (R156). -/
abbrev Byte := BitVec 8

/-- District D0 to D3. -/
abbrev DistrictId := Fin 4

/-- Pump bay B0 to B2. -/
abbrev BayId := Fin 3

/-- Pump P0 to P5. -/
abbrev PumpId := Fin 6

/-- Intake I0 to I15. -/
abbrev IntakeId := Fin 16

/-- Gauge record 0 (the river gauge) and 1 to 3 (the gauges of bays B0 to B2). -/
abbrev GaugeId := Fin 4

/-- Plan bank 0 or 1. -/
abbrev BankId := Fin 2

end Sys2Proof
end

