-- ==== Sys2Proof/Config.lean ====
section
/-! DEFINITION. The fixed numbers of the MDR-46 and the one value its data sheet leaves open. -/

namespace Sys2Proof.Config

/-- FREE VALUE (notes/assumptions/1.md). R24 says that the count of a loop rises "in equal steps" from 0 at 4 mA to 4,095
at 20 mA and does not say how a current between two steps is rounded. This is how far past a step, in 16,000ths of a step, a
current must lie to give the step above it: one threshold for all steps, so that the steps are equal and the count never
falls as the current rises. Nothing constrains it. -/
opaque roundingThreshold : Nat

/-- The greatest body an envelope holds (section 9.2). -/
def maxBody : Nat := 91

/-- A credit lies within minus and plus this many litres (R50). -/
def creditBound : Int := 100000000

/-- The bound at which a lifted-since-reset total saturates, 2⁴⁸ − 1 (R51). -/
def liftedBound : Nat := 281474976710655

/-- The bound at which run seconds (R53) and seconds elapsed (R11) saturate, and the greatest grant number (R84) and
start sequence number (R114): 2³² − 1. -/
def wordBound : Nat := 4294967295

/-- The break pulse lasts 5 s (R123). -/
def breakPulse : Nat := 5

/-- A gauge is carried through this many consecutive LOOP OPEN readings (R29, R30). -/
def holdLimit : Nat := 3

/-- The smoothing window holds at most this many levels (R28). -/
def windowSize : Nat := 4

/-- A district's order table holds at most 4 orders and its portion queue at most 8 portions (R70). -/
def maxOrders : Nat := 4

/-- See `maxOrders`. -/
def maxPortions : Nat := 8

/-- A transmit queue holds at most 4 ORDER DONE frames and 3 replies (R163). -/
def maxDone : Nat := 4

/-- See `maxDone`. -/
def maxReplies : Nat := 3

end Sys2Proof.Config
end

