-- ==== Sys2Proof/Syntax.lean ====
section
/-! DEFINITION. The commands of the MDR-46: one constructor of `Instr` for each row of spec/opcode_table.json, with the
row's operands. The table gives no operand fields; the operands are those of the rules of spec/ that take each command
(frames and notices carry the bytes of their body, R159). -/

namespace Sys2Proof

/-- The two wire pairs of a district port. -/
inductive Pair where
  | a
  | b
  deriving DecidableEq, Repr

/-- When the last CRC byte of a good frame came: now, as the port takes the frame, or earlier, before a transmission that the port
may have begun since (notes/assumptions/10.md). -/
inductive Arrival where
  | now
  | earlier
  deriving DecidableEq, Repr

/-- How a good frame reached its port: the pair it came on, and when. -/
structure Inbound where
  pair : Pair
  arrival : Arrival
  deriving DecidableEq, Repr

/-- A receiver: each district port has one on each pair, the river port has one (R157, R160). -/
inductive Receiver where
  | district (d : DistrictId) (pair : Pair)
  | river
  deriving DecidableEq, Repr

/-- What one gauge loop shows at a sample (R24): no loop current, the raw count it has been turned into, or the loop
current itself in microamperes, which the Gauge Unit turns into a count by Table 2-1. -/
inductive LoopInput where
  | loopOpen
  | count (r : Nat)
  | current (microamps : Nat)
  deriving DecidableEq, Repr

/-- DEPTH or RANGE (R25). -/
inductive GaugeKind where
  | depth
  | range
  deriving DecidableEq, Repr

/-- The overheat policy of a pump (R125). -/
inductive OverheatPolicy where
  | trip
  | rundown
  deriving DecidableEq, Repr

/-- The sequencer mode (Table 1-3). -/
inductive SequencerMode where
  | tracking
  | stepped
  deriving DecidableEq, Repr

/-- The early-mark policy (Table 1-3). -/
inductive EarlyMark where
  | ignore
  | restart
  deriving DecidableEq, Repr

/-- The adoption mode (R3). -/
inductive Adoption where
  | auto
  | manual
  deriving DecidableEq, Repr

/-- The bit rate of the five ports (R156). -/
inductive BitRate where
  | b19200
  | b38400
  | b115200
  deriving DecidableEq, Repr

/-- One phase entry of a cycle plan (Table 1-2): minutes, L/s, m³, four weights, m³. -/
structure PhaseEntry where
  duration : Nat
  ceiling : Nat
  allowance : Nat
  weights : Vector Nat 4
  runCap : Nat
  deriving DecidableEq, Repr

/-- The default plan as the settings image holds it: four places for phase entries, of which the phase count says how
many are used. -/
structure PlanImage where
  number : Nat
  phaseCount : Nat
  entries : Vector PhaseEntry 4
  deriving DecidableEq, Repr

/-- One point of a pump curve: head in mm and flow in L/s (R38). -/
structure CurvePoint where
  head : Int
  flow : Int
  deriving DecidableEq, Repr

/-- The settings of one district and its port in the image (Table 10-5). -/
structure DistrictImage where
  enabled : Bool
  critical : Bool
  mask : BitVec 16
  interval : Nat
  deriving DecidableEq, Repr

/-- One Bay Map entry of the image (R61); `bay` is none where the bay code names no bay. -/
structure MapImage where
  mapped : Bool
  bay : Option BayId
  owners : Vector Bool 4
  deriving DecidableEq, Repr

/-- One pump of the image; `overheat` is none where the code names neither policy (R125). -/
structure PumpImage where
  curve : Vector CurvePoint 8
  overheat : Option OverheatPolicy
  deriving DecidableEq, Repr

/-- One bay of the image (R37, R106), in mm. -/
structure BayImage where
  startLevel : Int
  stopLevel : Int
  loss : Int
  deriving DecidableEq, Repr

/-- One gauge of the image (R25); `kind` is none where the code names neither kind. -/
structure GaugeImage where
  kind : Option GaugeKind
  mount : Int
  span : Nat
  trim : Int
  deriving DecidableEq, Repr

/-- The timer limits and Roster settings of the image (Tables 7-4 and 10-5), as they stand in it. -/
structure LimitsImage where
  selfCheck : Nat
  prime : Nat
  primeHold : Nat
  startConfirm : Nat
  rundown : Nat
  travel : Nat
  feeder : Nat
  stagger : Nat
  shedMargin : Nat
  freshness : Nat
  deriving DecidableEq, Repr

/-- The settings image (Table 10-5), as it stands in its source: no value is held to its range yet. -/
structure Image where
  address : Nat
  groups : BitVec 32
  acceptAll : Bool
  bitRate : Option BitRate
  districts : Vector DistrictImage 4
  bayMap : Vector MapImage 16
  pumps : Vector PumpImage 6
  bays : Vector BayImage 3
  gauges : Vector GaugeImage 4
  limits : LimitsImage
  mode : SequencerMode
  earlyMark : EarlyMark
  adoption : Adoption
  plan : PlanImage
  deriving DecidableEq, Repr

/-- What the Settings Loader finds at one image source (R176): whether it answers (or, for the fuse block, is
programmed), its first two bytes, the bytes between marker and checksum, the checksum, whether it answered to the end,
and the settings those bytes spell (the data sheet gives no layout of the image: notes/assumptions/4.md). -/
structure SourceRead where
  answers : Bool
  marker : BitVec 16
  payload : List Byte
  checksum : BitVec 16
  whole : Bool
  image : Image
  deriving DecidableEq, Repr

/-- The commands. A `body` is the body of a good frame or notice, byte by byte; of a notice it begins with the two
destination bytes (R159). -/
inductive Instr where
  | stationReset
  | resetRelease
  | imageReadComplete (memory fuse : SourceRead)
  | sample (river bay0 bay1 bay2 : LoopInput)
  | sequencerSecond
  | durationExpiry
  | plan (body : List Byte)
  | mark (body : List Byte)
  | stage (body : List Byte)
  | adopt (body : List Byte)
  | pin (body : List Byte)
  | unpin (body : List Byte)
  | hold (body : List Byte)
  | release (body : List Byte)
  | clear (body : List Byte)
  | gateClear (body : List Byte)
  | poll (body : List Byte)
  | unknownNotice (kind : Byte) (body : List Byte)
  | stationReplyNotice (body : List Byte)
  | stationReplySend
  | answerDiscard
  | lift (d : DistrictId) (pair : Inbound) (body : List Byte)
  | withdraw (d : DistrictId) (pair : Inbound) (body : List Byte)
  | query (d : DistrictId) (pair : Inbound) (body : List Byte)
  | setReport (d : DistrictId) (pair : Inbound) (body : List Byte)
  | portReset (d : DistrictId) (pair : Inbound) (body : List Byte)
  | unknownFrame (d : DistrictId) (pair : Inbound) (kind : Byte) (body : List Byte)
  | frameDiscarded (rx : Receiver)
  | frameGapTimeout (rx : Receiver)
  | transmitStart (d : DistrictId)
  | transmitEnd (d : DistrictId)
  | alwaysReportExpiry (d : DistrictId)
  | staggerExpiry
  | selfCheckLimitExpiry (p : PumpId)
  | primeLimitExpiry (p : PumpId)
  | primeHoldExpiry (p : PumpId)
  | startConfirmExpiry (p : PumpId)
  | rundownLimitExpiry (p : PumpId)
  | breakPulseEnd (p : PumpId)
  | readyTrue (p : PumpId)
  | readyFalse (p : PumpId)
  | runningTrue (p : PumpId)
  | runningFalse (p : PumpId)
  | primedTrue (p : PumpId)
  | primedFalse (p : PumpId)
  | hotTrue (p : PumpId)
  | hotFalse (p : PumpId)
  | feederOkFalse
  | feederOkTrue
  | atOpenTrue (i : IntakeId)
  | atOpenFalse (i : IntakeId)
  | atShutTrue (i : IntakeId)
  | atShutFalse (i : IntakeId)
  | travelLimitExpiry (i : IntakeId)
  | startMarkerReceived (rx : Receiver) (header : Option (Byte × Byte))
  | answerSent
  deriving DecidableEq, Repr

end Sys2Proof
end

