-- ==== Sys2Proof/Decode.lean ====
section
/-! DEFINITION. Decoding of a command word. The part fetches no words: no row of spec/opcode_table.json gives bits, and the
frames and notices it takes arrive as whole bodies, which Machine/Operands.lean reads. -/

namespace Sys2Proof

/-- The command that a word spells by the table's bits: none, since no row of the table gives bits. -/
def decodeTableWord (_nbits _w : Nat) : Option Instr := none

end Sys2Proof
end

