-- ==== Sys2Proof/Machine/State.lean ====
section
/-! DEFINITION. The state of the MDR-46, block by block as 00_scope.md (Organization) lists what each block owns, with the
levels of the part's input lines and the queue of waiting commands. Plain data throughout. `State.reset` is the part
right after a station reset. -/

namespace Sys2Proof.Machine

open Sys2Proof

/-! ## Settings Loader -/

/-- LOADING, CHECKING, RUNNING or HALTED (section 10.5). -/
inductive StationState where
  | loading
  | checking
  | running
  | halted
  deriving DecidableEq, Repr

/-- Where the settings image came from (Table 10-4). -/
inductive ImageSource where
  | memory
  | fuse
  | builtIn
  deriving DecidableEq, Repr

/-- The Settings Loader's own state (R178 to R180). -/
structure Loader where
  /-- The station state. -/
  station : StationState
  /-- The reset pin is held low, or power is not yet good (R180). -/
  held : Bool
  /-- The source of the loaded image; none until a read has completed. -/
  source : Option ImageSource
  /-- The loaded settings image as read; none until a read has completed, and none for the built-in defaults. -/
  image : Option Image
  /-- At least one sample of this CHECKING has been announced (R179). -/
  sampled : Bool
  deriving DecidableEq, Repr

/-- The settings of a district and its port, as taken (R63, R162, R177). -/
structure DistrictSettings where
  enabled : Bool
  critical : Bool
  mask : BitVec 16
  interval : Nat
  deriving DecidableEq, Repr

/-- A MAPPED entry of the Bay Map (Table 4-1): its bay and its owner set. -/
structure MapEntry where
  bay : BayId
  owners : Vector Bool 4
  deriving DecidableEq, Repr

/-- The settings of a pump, as taken (R38, R125). -/
structure PumpSettings where
  curve : Vector CurvePoint 8
  overheat : OverheatPolicy
  deriving DecidableEq, Repr

/-- The settings of a bay, as taken (R37, R106), in mm. -/
structure BaySettings where
  startLevel : Int
  stopLevel : Int
  loss : Int
  deriving DecidableEq, Repr

/-- The settings part of a gauge record, as taken (Table 2-2). -/
structure GaugeSettings where
  kind : GaugeKind
  mount : Int
  span : Nat
  trim : Int
  deriving DecidableEq, Repr

/-- The values the blocks have taken from the settings image, each held to its range (R177, Table 10-5). An UNMAPPED
intake is none in `bayMap`. The default plan, the adoption mode, the sequencer mode and the early-mark policy are held by
the Plan Store and the Phase Sequencer. -/
structure Settings where
  address : Nat
  groups : BitVec 32
  acceptAll : Bool
  bitRate : BitRate
  districts : Vector DistrictSettings 4
  bayMap : Vector (Option MapEntry) 16
  pumps : Vector PumpSettings 6
  bays : Vector BaySettings 3
  gauges : Vector GaugeSettings 4
  selfCheck : Nat
  prime : Nat
  primeHold : Nat
  startConfirm : Nat
  rundown : Nat
  travel : Nat
  feeder : Nat
  stagger : Nat
  shedMargin : Nat
  freshness : Nat
  deriving DecidableEq, Repr

/-! ## Input lines -/

/-- The levels of the part's input lines other than the gauge loops (Tables 7-1 and 8-1). The gauge loops are operands of
the sample; the reset pin is `Loader.held`. -/
structure Pins where
  ready : Vector Bool 6
  running : Vector Bool 6
  primed : Vector Bool 6
  hot : Vector Bool 6
  feederOk : Bool
  atOpen : Vector Bool 16
  atShut : Vector Bool 16
  deriving DecidableEq, Repr

/-! ## Plan Store and Phase Sequencer -/

/-- A cycle plan (R1). Its phase count is the length of `entries`. -/
structure Plan where
  number : Nat
  entries : List PhaseEntry
  deriving DecidableEq, Repr

/-- The two plan banks (none is EMPTY), the active-bank selector and the adoption mode (R2, R3). -/
structure PlanStore where
  banks : Vector (Option Plan) 2
  active : BankId
  adoption : Adoption
  deriving DecidableEq, Repr

/-- The phase position record (Table 1-3). -/
structure Sequencer where
  phase : Nat
  elapsed : Nat
  mode : SequencerMode
  earlyMark : EarlyMark
  pin : Option (Fin 4)
  cycle : BitVec 16
  deriving DecidableEq, Repr

/-! ## Gauge Unit and Meter -/

/-- The condition of a gauge (Table 2-2). -/
inductive GaugeCondition where
  | ok
  | saturated
  | holding
  | failed
  deriving DecidableEq, Repr

/-- The part of a gauge record that readings move (Table 2-2). The smoothed level is derived from the window. -/
structure GaugeRecord where
  window : List Int
  holdCount : Nat
  condition : GaugeCondition
  deriving DecidableEq, Repr

/-- The authority stage record (R33): a level and its time of arrival. -/
structure StageRecord where
  level : Int
  arrival : Nat
  deriving DecidableEq, Repr

/-- The river level source (Table 2-4). -/
inductive RiverSource where
  | none
  | gauge
  | stage
  deriving DecidableEq, Repr

/-- The Gauge Unit: gauge 0 is the river gauge, gauge n + 1 that of bay Bn. -/
structure GaugeUnit where
  records : Vector GaugeRecord 4
  stage : Option StageRecord
  source : RiverSource
  river : Option Int
  headBlind : Bool
  heads : Vector (Option Int) 3
  deriving DecidableEq, Repr

/-- The Meter (R44, R46, R53): per pump the computed flow in L/s (none is absent) and the run seconds, per bay the sample
volume in litres. `sampledAt` is the model's own (notes/assumptions/16.md): the second of the timebase at which the latest
sample was taken, none before the first. -/
structure Meter where
  flows : Vector (Option Nat) 6
  runSeconds : Vector Nat 6
  volumes : Vector Nat 3
  sampledAt : Option Nat
  deriving DecidableEq, Repr

/-! ## Account Table -/

/-- A district account (Table 3-1), in litres. -/
structure Account where
  credit : Int
  liftedPhase : Nat
  liftedReset : Nat
  deriving DecidableEq, Repr

/-- The Account Table (Tables 3-1 and 3-2). -/
structure AccountTable where
  districts : Vector Account 4
  station : Nat
  exhausted : Bool
  deriving DecidableEq, Repr

/-! ## Order Unit -/

/-- ROUTINE or URGENT. -/
inductive OrderClass where
  | routine
  | urgent
  deriving DecidableEq, Repr

/-- Why a portion ended (section 4.6). CANCELLED never reaches a frame (R78). -/
inductive PortionOutcome where
  | complete
  | drained
  | withdrawn
  | gateFault
  | cancelled
  deriving DecidableEq, Repr

/-- The state of a portion (section 4.6). -/
inductive PortionState where
  | pending
  | inService
  | ended (outcome : PortionOutcome)
  deriving DecidableEq, Repr

/-- A portion (R67, R73): named by its district (whose queue holds it), its order's tag and its bay; target in m³, lifted
volume in litres. -/
structure Portion where
  tag : Byte
  cls : OrderClass
  bay : BayId
  target : Nat
  intakes : List IntakeId
  lifted : Nat
  state : PortionState
  deriving DecidableEq, Repr

/-- An order of an order table (R70); `bays` names its portions in the order of R67. -/
structure Order where
  tag : Byte
  cls : OrderClass
  target : Nat
  bays : List BayId
  deriving DecidableEq, Repr

/-- One portion entry of an ORDER DONE frame (Table 9-3). -/
structure DonePortion where
  bay : BayId
  target : Nat
  outcome : PortionOutcome
  lifted : Nat
  deriving DecidableEq, Repr

/-- The content of an ORDER DONE frame (R78). -/
structure DoneFrame where
  tag : Byte
  cls : OrderClass
  portions : List DonePortion
  deriving DecidableEq, Repr

/-- What the Order Unit holds for one district: the order table, the portion queue, and the composed frames of the
FINISHED orders in the order in which they reached their ends (R70, R71, R76). -/
structure DistrictOrders where
  table : List Order
  queue : List Portion
  finished : List DoneFrame
  deriving DecidableEq, Repr

/-- The Order Unit: the faulted flags of the Bay Map and the four districts' orders. -/
structure OrderUnit where
  faulted : Vector Bool 16
  districts : Vector DistrictOrders 4
  deriving DecidableEq, Repr

/-! ## Bay Arbiters and Pump Roster -/

/-- A grant record (Table 5-1). The portion is named by `district`, `tag` and the bay that holds the record. -/
structure Grant where
  district : DistrictId
  tag : Byte
  number : Nat
  volume : Nat
  lifting : Bool
  deriving DecidableEq, Repr

/-- A bay record (R83): FREE is `grant = none`. -/
structure Bay where
  grant : Option Grant
  pointer : DistrictId
  deriving DecidableEq, Repr

/-- The three bay records and the grant number counter the arbiters share (R84). -/
structure Arbiters where
  bays : Vector Bay 3
  counter : Nat
  deriving DecidableEq, Repr

/-- The Pump Roster's records (Table 6-1). A stopped stagger timer is none. -/
structure Roster where
  stagger : Option Nat
  outstanding : Option PumpId
  numbers : Vector (Option Nat) 6
  counter : Nat
  heldCeiling : Nat
  deriving DecidableEq, Repr

/-! ## Pump Controllers -/

/-- The nine pump states (Table 7-3). -/
inductive PumpState where
  | offline
  | idle
  | priming
  | primed
  | starting
  | lifting
  | rundown
  | fault
  | held
  deriving DecidableEq, Repr

/-- The fault kinds (section 7.2). -/
inductive FaultKind where
  | start
  | overheat
  | run
  | prime
  | stop
  | supply
  deriving DecidableEq, Repr

/-- The state timer of a pump: stopped, loaded but not counting (a self-check that has not begun or is paused, R126), or
running with its seconds remaining. -/
inductive StateTimer where
  | stopped
  | paused (left : Nat)
  | running (left : Nat)
  deriving DecidableEq, Repr

/-- The run-time part of a pump record (Table 7-3); curve and overheat policy are in `Settings`. -/
structure Pump where
  state : PumpState
  primary : Option FaultKind
  noted : List FaultKind
  hold : Bool
  timer : StateTimer
  pulse : Option Nat
  deriving DecidableEq, Repr

/-- How a bay stands (R85): serviceable, out of service, or neither. -/
inductive Service where
  | serviceable
  | neither
  | outOfService
  deriving DecidableEq, Repr

/-- One change of pump state, as its controller reports it in the event that makes it (R124): the pump, the state it left and
the one it entered, and how its bay stood before the change and after it (R85). -/
structure PumpReport where
  pump : PumpId
  left : PumpState
  entered : PumpState
  before : Service
  after : Service
  deriving DecidableEq, Repr

/-! ## Gate Controller -/

/-- The gate states (Table 8-2). -/
inductive GateState where
  | shut
  | opening
  | opened
  | closing
  | jammed
  deriving DecidableEq, Repr

/-- A gate record (R145). A stopped travel timer is none. -/
structure Gate where
  state : GateState
  timer : Option Nat
  deriving DecidableEq, Repr

/-! ## District Ports and River Port -/

/-- A receiver's state (R157); BODY keeps the body length and kind taken from the header. -/
inductive RxState where
  | hunt
  | header
  | body (length kind : Byte)
  deriving DecidableEq, Repr

/-- The outcome of a REPLY (R161), in the order of its codes. -/
inductive ReplyOutcome where
  | accepted
  | acceptedPartial
  | portDisabled
  | malformed
  | volumeZero
  | classDenied
  | tagInUse
  | unsupported
  | notOwner
  | intakeFault
  | queueFull
  | unknownTag
  | starting
  | halted
  deriving DecidableEq, Repr

/-- The status of an intake of a LIFT (R66), in the order of its codes (R161). -/
inductive IntakeStatus where
  | ok
  | unmapped
  | faulted
  | notOwner
  | duplicate
  deriving DecidableEq, Repr

/-- A REPLY waiting to be sent (R161), with the pair it goes out on. -/
structure Reply where
  pair : Pair
  kind : Byte
  tag : Byte
  outcome : ReplyOutcome
  statuses : List IntakeStatus
  deriving DecidableEq, Repr

/-- An entry of a transmit queue (R163). A STATUS REPORT entry carries no content, but the pair of the QUERY it answers. -/
inductive TxEntry where
  | reply (r : Reply)
  | orderDone (f : DoneFrame)
  | report (queryPair : Option Pair)
  deriving DecidableEq, Repr

/-- A frame in transmission: the pair it goes out on and its bytes, the envelope whole (R164). -/
structure Sending where
  pair : Pair
  bytes : List Byte
  deriving DecidableEq, Repr

/-- A District Port (section 9.4, R171 to R173). While `sending` is present the queue's head is the entry in
transmission. `owes` is R171's report owed, `owedPair` the pair of a QUERY it is to answer (R172). -/
structure Port where
  rxA : RxState
  rxB : RxState
  lastGood : Pair
  queue : List TxEntry
  sending : Option Sending
  mask : BitVec 16
  interval : Nat
  timer : Option Nat
  flags : BitVec 16
  owes : Bool
  owedPair : Option Pair
  deriving DecidableEq, Repr

/-- The outcome of a STATION REPLY (R168), in the order of its codes. -/
inductive NoticeOutcome where
  | done
  | ignored
  | nothingStaged
  | stillActive
  | badTarget
  | rejected
  deriving DecidableEq, Repr

/-- The answer the River Port holds (R168): the kind of the notice answered, the outcome, and for a POLL the fields of
the station report's sections (R175), each beginning with its section number. -/
structure Answer where
  kind : Byte
  outcome : NoticeOutcome
  sections : List (List Byte)
  deriving DecidableEq, Repr

/-- The River Port (section 9.7): its receiver, the eight station flags (Table 10-2), the answer held, and the bytes of
the notices it is sending. The filter settings are in `Settings`. -/
structure RiverPort where
  rx : RxState
  flags : BitVec 8
  answer : Option Answer
  sending : Option (List (List Byte))
  deriving DecidableEq, Repr

/-! ## The state -/

/-- The state of the part. `pending` is the queue of the commands that are waiting, first in, first out; `second` is the
current second of the part's timebase; `reports` is the pump controllers' reports of the command that runs (R124), oldest first,
which the arbiters and the Roster take before it ends, so that none is left between two commands. -/
structure State where
  pending : List Instr
  second : Nat
  pins : Pins
  loader : Loader
  settings : Settings
  plans : PlanStore
  sequencer : Sequencer
  gauges : GaugeUnit
  meter : Meter
  accounts : AccountTable
  orders : OrderUnit
  arbiters : Arbiters
  roster : Roster
  pumps : Vector Pump 6
  reports : List PumpReport
  gates : Vector Gate 16
  ports : Vector Port 4
  river : RiverPort
  deriving DecidableEq, Repr

/-- No rule of spec/ describes an event that stops the part: HALTED is a state of the station, from which the part still
answers (R178). So no fault exists and no meaning raises one; that is safe. -/
inductive Fault where
  deriving DecidableEq, Repr

/-- Why the model refuses a command. -/
inductive Refusal where
  /-- The command has no meaning in the model yet. Raised by an arm of `exec` only; safe. No arm raises it now. -/
  | notModelled (mnemonic : String)
  deriving DecidableEq, Repr

/-- The built-in default plan (R3): number 0, one phase entry of zeros. -/
def builtInPlan : Plan :=
  { number := 0,
    entries := [{ duration := 0, ceiling := 0, allowance := 0, weights := #v[0, 0, 0, 0], runCap := 0 }] }

/-- The built-in default curve (Table 10-5): heads 0 to 7,000 in steps of 1,000, all flows 0. -/
def builtInCurve : Vector CurvePoint 8 :=
  #v[⟨0, 0⟩, ⟨1000, 0⟩, ⟨2000, 0⟩, ⟨3000, 0⟩, ⟨4000, 0⟩, ⟨5000, 0⟩, ⟨6000, 0⟩, ⟨7000, 0⟩]

/-- The built-in defaults of the settings image, as taken (Table 10-5). -/
def builtInSettings : Settings :=
  { address := 1, groups := 0, acceptAll := false, bitRate := .b19200,
    districts := Vector.replicate 4 { enabled := false, critical := false, mask := 0, interval := 0 },
    bayMap := Vector.replicate 16 none,
    pumps := Vector.replicate 6 { curve := builtInCurve, overheat := .trip },
    bays := Vector.replicate 3 { startLevel := 0, stopLevel := -500, loss := 0 },
    gauges := Vector.replicate 4 { kind := .depth, mount := 0, span := 10000, trim := 0 },
    selfCheck := 30, prime := 180, primeHold := 900, startConfirm := 10, rundown := 60,
    travel := 120, feeder := 2, stagger := 20, shedMargin := 100, freshness := 600 }

/-- The part right after a station reset with the reset pin still held (R180 and the reset values of every chapter):
LOADING, no image. Until an image is read the settings stand at the built-in defaults; the input lines stand as those of
a station at rest with its supply present (both DESIGN CHOICE, notes/assumptions/2.md and 3.md). -/
def State.reset : State :=
  { pending := [],
    second := 0,
    pins :=
      { ready := Vector.replicate 6 false, running := Vector.replicate 6 false, primed := Vector.replicate 6 false,
        hot := Vector.replicate 6 false, feederOk := true,
        atOpen := Vector.replicate 16 false, atShut := Vector.replicate 16 true },
    loader := { station := .loading, held := true, source := none, image := none, sampled := false },
    settings := builtInSettings,
    plans := { banks := #v[some builtInPlan, none], active := 0, adoption := .auto },
    sequencer := { phase := 0, elapsed := 0, mode := .tracking, earlyMark := .ignore, pin := none, cycle := 0 },
    gauges :=
      { records := Vector.replicate 4 { window := [], holdCount := 0, condition := .failed },
        stage := none, source := .none, river := none, headBlind := true, heads := Vector.replicate 3 none },
    meter :=
      { flows := Vector.replicate 6 none, runSeconds := Vector.replicate 6 0, volumes := Vector.replicate 3 0,
        sampledAt := none },
    accounts :=
      { districts := Vector.replicate 4 { credit := 0, liftedPhase := 0, liftedReset := 0 },
        station := 0, exhausted := false },
    orders :=
      { faulted := Vector.replicate 16 false,
        districts := Vector.replicate 4 { table := [], queue := [], finished := [] } },
    arbiters := { bays := Vector.replicate 3 { grant := none, pointer := 3 }, counter := 1 },
    roster := { stagger := none, outstanding := none, numbers := Vector.replicate 6 none, counter := 1, heldCeiling := 0 },
    pumps :=
      Vector.replicate 6
        { state := .offline, primary := none, noted := [], hold := false, timer := .paused 30, pulse := none },
    reports := [],
    gates := Vector.replicate 16 { state := .shut, timer := none },
    ports :=
      Vector.replicate 4
        { rxA := .hunt, rxB := .hunt, lastGood := .a, queue := [], sending := none, mask := 0, interval := 0,
          timer := none, flags := 0, owes := false, owedPair := none },
    river := { rx := .hunt, flags := 0, answer := none, sending := none } }

end Sys2Proof.Machine
end

