-- ==== Sys2Proof/Machine/Ops.lean ====
section
/-! DEFINITION. The named reads and writes of the state: one write per block of the state, one per record of a block that
holds several, and the readings the rules of several chapters share. -/

namespace Sys2Proof.Machine

open Sys2Proof

/-! ## Writing a block -/

/-- Replace the state's `pending`. -/
def State.withPending (s : State) (x : List Instr) : State := { s with pending := x }

/-- Replace the state's `second`. -/
def State.withSecond (s : State) (x : Nat) : State := { s with second := x }

/-- Replace the state's `pins`. -/
def State.withPins (s : State) (x : Pins) : State := { s with pins := x }

/-- Replace the state's `loader`. -/
def State.withLoader (s : State) (x : Loader) : State := { s with loader := x }

/-- Replace the state's `settings`. -/
def State.withSettings (s : State) (x : Settings) : State := { s with settings := x }

/-- Replace the state's `plans`. -/
def State.withPlans (s : State) (x : PlanStore) : State := { s with plans := x }

/-- Replace the state's `sequencer`. -/
def State.withSequencer (s : State) (x : Sequencer) : State := { s with sequencer := x }

/-- Replace the state's `gauges`. -/
def State.withGauges (s : State) (x : GaugeUnit) : State := { s with gauges := x }

/-- Replace the state's `meter`. -/
def State.withMeter (s : State) (x : Meter) : State := { s with meter := x }

/-- Replace the state's `accounts`. -/
def State.withAccounts (s : State) (x : AccountTable) : State := { s with accounts := x }

/-- Replace the state's `orders`. -/
def State.withOrders (s : State) (x : OrderUnit) : State := { s with orders := x }

/-- Replace the state's `arbiters`. -/
def State.withArbiters (s : State) (x : Arbiters) : State := { s with arbiters := x }

/-- Replace the state's `roster`. -/
def State.withRoster (s : State) (x : Roster) : State := { s with roster := x }

/-- Replace the state's `pumps`. -/
def State.withPumps (s : State) (x : Vector Pump 6) : State := { s with pumps := x }

/-- Replace the state's `reports`. -/
def State.withReports (s : State) (x : List PumpReport) : State := { s with reports := x }

/-- Replace the state's `gates`. -/
def State.withGates (s : State) (x : Vector Gate 16) : State := { s with gates := x }

/-- Replace the state's `ports`. -/
def State.withPorts (s : State) (x : Vector Port 4) : State := { s with ports := x }

/-- Replace the state's `river`. -/
def State.withRiver (s : State) (x : RiverPort) : State := { s with river := x }

/-! ## Writing one record of a block -/

/-- Replace the record of pump `p`. -/
def State.setPump (s : State) (p : PumpId) (x : Pump) : State := s.withPumps (s.pumps.set p x)

/-- Replace the record of gate `i`. -/
def State.setGate (s : State) (i : IntakeId) (x : Gate) : State := s.withGates (s.gates.set i x)

/-- Replace the port of district `d`. -/
def State.setPort (s : State) (d : DistrictId) (x : Port) : State := s.withPorts (s.ports.set d x)

/-- Replace the record of bay `b`. -/
def State.setBay (s : State) (b : BayId) (x : Bay) : State :=
  s.withArbiters { s.arbiters with bays := s.arbiters.bays.set b x }

/-- Replace the grant of bay `b`; the rotation pointer stays. -/
def State.setGrant (s : State) (b : BayId) (g : Option Grant) : State :=
  s.setBay b { s.arbiters.bays[b] with grant := g }

/-- Replace the account of district `d`. -/
def State.setAccount (s : State) (d : DistrictId) (x : Account) : State :=
  s.withAccounts { s.accounts with districts := s.accounts.districts.set d x }

/-- Replace what the Order Unit holds for district `d`. -/
def State.setOrders (s : State) (d : DistrictId) (x : DistrictOrders) : State :=
  s.withOrders { s.orders with districts := s.orders.districts.set d x }

/-- Replace the faulted flag of intake `i` (R62). -/
def State.setFaulted (s : State) (i : IntakeId) (x : Bool) : State :=
  s.withOrders { s.orders with faulted := s.orders.faulted.set i x }

/-- Replace the station state. -/
def State.setStation (s : State) (x : StationState) : State := s.withLoader { s.loader with station := x }

/-! ## The things there are several of -/

/-- D0 to D3, in cyclic order from D0. -/
def allDistricts : List DistrictId := [0, 1, 2, 3]

/-- B0 to B2. -/
def allBays : List BayId := [0, 1, 2]

/-- P0 to P5. -/
def allPumps : List PumpId := [0, 1, 2, 3, 4, 5]

/-- I0 to I15. -/
def allIntakes : List IntakeId := [0, 1, 2, 3, 4, 5, 6, 7, 8, 9, 10, 11, 12, 13, 14, 15]

/-- The bay a pump stands in: P0 and P1 in B0, P2 and P3 in B1, P4 and P5 in B2 (00_scope.md, Names). -/
def bayOf (p : PumpId) : BayId := ⟨p.val / 2, by omega⟩

/-- The two pumps of a bay. -/
def pumpsOf (b : BayId) : List PumpId := [⟨2 * b.val, by omega⟩, ⟨2 * b.val + 1, by omega⟩]

/-- The gauge of a bay. -/
def gaugeOf (b : BayId) : GaugeId := ⟨b.val + 1, by omega⟩

/-- Apply a change to each thing of a list, one after another. -/
def State.each {α : Type} (s : State) (xs : List α) (f : State → α → State) : State := xs.foldl f s

/-! ## Shared readings -/

/-- The station is RUNNING. -/
abbrev State.isRunning (s : State) : Prop := s.loader.station = .running

/-- The station is CHECKING or RUNNING: timers count and samples are taken (R43, R146). -/
abbrev State.isLive (s : State) : Prop := s.loader.station = .checking ∨ s.loader.station = .running

/-- The grant of a bay; none is FREE. -/
def State.grantOf (s : State) (b : BayId) : Option Grant := s.arbiters.bays[b].grant

/-- A pump in STARTING or LIFTING: it counts against the feeder limit and the ceiling (R111). -/
def PumpState.counts : PumpState → Bool
  | .starting | .lifting => true
  | .offline | .idle | .priming | .primed | .rundown | .fault | .held => false

/-- Hold an integer between two bounds, a value outside taken as the nearer one. -/
def clampInt (lo hi x : Int) : Int := max lo (min hi x)

/-- Hold a natural number between two bounds, a value outside taken as the nearer one. -/
def clampNat (lo hi x : Nat) : Nat := max lo (min hi x)

/-- The bit rate the ports run at (R156): the image's rate from CHECKING on, 19,200 bit/s in HALTED; in LOADING the rate
is not yet known. -/
def State.bitRate (s : State) : Option BitRate :=
  match s.loader.station with
  | .loading => none
  | .halted => some .b19200
  | .checking | .running => some s.settings.bitRate

end Sys2Proof.Machine
end

