-- ==== Sys2Proof/Machine/Flags.lean ====
section
/-! DEFINITION. The two kinds of flag the part raises: the station flags of the River Port (R174) and the report events of
the District Ports with the STATUS REPORT entries they ask for (R163, R171). -/

namespace Sys2Proof.Machine

open Sys2Proof

/-- The eight station flags, bit 0 first (Table 10-2). -/
inductive StationFlag where
  | planRejected
  | planAdopted
  | markIgnored
  | exhausted
  | pumpFault
  | gateJammed
  | headBlind
  | gaugeFailed
  deriving DecidableEq, Repr

/-- The bit of a station flag (Table 10-2). -/
def StationFlag.bit : StationFlag → BitVec 8
  | .planRejected => 0x01 | .planAdopted => 0x02 | .markIgnored => 0x04 | .exhausted => 0x08
  | .pumpFault => 0x10 | .gateJammed => 0x20 | .headBlind => 0x40 | .gaugeFailed => 0x80

/-- The ten report events, bit 0 first (Table 9-4). -/
inductive ReportEvent where
  | grantStart
  | grantEnd
  | phaseChange
  | planAdopted
  | exhausted
  | exhaustionEnd
  | pumpFault
  | headBlind
  | bayUnserved
  | gateJammed
  deriving DecidableEq, Repr

/-- The bit of a report event (Table 9-4). -/
def ReportEvent.bit : ReportEvent → BitVec 16
  | .grantStart => 0x001 | .grantEnd => 0x002 | .phaseChange => 0x004 | .planAdopted => 0x008
  | .exhausted => 0x010 | .exhaustionEnd => 0x020 | .pumpFault => 0x040 | .headBlind => 0x080
  | .bayUnserved => 0x100 | .gateJammed => 0x200

/-- The mask bits that mean something: bits 10 to 15 are ignored (R162, R177). -/
def maskBits : BitVec 16 := 0x03FF

/-- Set a station flag; only while the station is RUNNING (R174). -/
def State.raiseStation (s : State) (f : StationFlag) : State :=
  if s.isRunning then s.withRiver { s.river with flags := s.river.flags ||| f.bit } else s

/-! ## The transmit queue -/

/-- The entry is a STATUS REPORT. -/
def TxEntry.isReport : TxEntry → Bool
  | .report _ => true
  | .reply _ | .orderDone _ => false

/-- The entry is a reply. -/
def TxEntry.isReply : TxEntry → Bool
  | .reply _ => true
  | .report _ | .orderDone _ => false

/-- The entry is an ORDER DONE. -/
def TxEntry.isDone : TxEntry → Bool
  | .orderDone _ => true
  | .reply _ | .report _ => false

/-- The entries that wait: the queue without the entry in transmission (R164, R171). -/
def Port.waiting (q : Port) : List TxEntry := if q.sending.isSome then q.queue.drop 1 else q.queue

/-- The entry in transmission, if there is one. -/
def Port.inTransmission (q : Port) : List TxEntry := if q.sending.isSome then q.queue.take 1 else []

/-- A STATUS REPORT entry waits in the queue. -/
def Port.reportWaits (q : Port) : Bool := q.waiting.any TxEntry.isReport

/-- A STATUS REPORT is in transmission. -/
def Port.reportInTransmission (q : Port) : Bool := q.inTransmission.any TxEntry.isReport

/-- How many replies hold an entry of the queue (R161, R163). -/
def Port.replyCount (q : Port) : Nat := q.queue.countP TxEntry.isReply

/-- How many ORDER DONE frames hold an entry of the queue (R76, R163). -/
def Port.doneCount (q : Port) : Nat := q.queue.countP TxEntry.isDone

/-- Add an entry at the tail (R163). -/
def Port.join (q : Port) (e : TxEntry) : Port := { q with queue := q.queue ++ [e] }

/-- Ask for a STATUS REPORT (R171): a waiting entry takes the request by merging, a report in transmission leaves one
owed, and otherwise an entry joins at the tail. -/
def Port.askReport (q : Port) : Port :=
  if q.reportWaits then q
  else if q.reportInTransmission then { q with owes := true }
  else q.join (.report none)

/-- Put the pair of a QUERY on a STATUS REPORT entry; other entries stay. -/
def TxEntry.mark (pair : Pair) : TxEntry → TxEntry
  | .report _ => .report (some pair)
  | .reply r => .reply r
  | .orderDone f => .orderDone f

/-- Answer a QUERY by the STATUS REPORT entry, marked for the QUERY's pair (R163, R172): the waiting entry where it
stands, a new entry once the report in transmission has left, or a new entry at the tail. -/
def Port.askQuery (q : Port) (pair : Pair) : Port :=
  if q.reportWaits then { q with queue := q.inTransmission ++ q.waiting.map (TxEntry.mark pair) }
  else if q.reportInTransmission then { q with owes := true, owedPair := some pair }
  else q.join (.report (some pair))

/-- A District Port takes a report event (R171): only while the station is RUNNING and the district is enabled, and only
when its mask enables the event. -/
def State.reportTo (s : State) (d : DistrictId) (e : ReportEvent) : State :=
  if s.isRunning ∧ s.settings.districts[d].enabled = true ∧ s.ports[d].mask &&& e.bit ≠ 0 then
    s.setPort d { s.ports[d] with flags := s.ports[d].flags ||| e.bit }.askReport
  else s

/-- Every District Port takes a report event. -/
def State.reportAll (s : State) (e : ReportEvent) : State := s.each allDistricts fun t d => t.reportTo d e

/-- A REPLY is queued at the port of district `d` (R163). -/
def State.queueReply (s : State) (d : DistrictId) (r : Reply) : State := s.setPort d (s.ports[d].join (.reply r))

end Sys2Proof.Machine
end

