-- ==== Sys2Proof/Machine/Wire.lean ====
section
/-! DEFINITION. The bytes on the field lines: multi-byte fields, the CRC and the envelope of every frame and notice (R157 to
R159), and the codes of Tables 9-1 to 9-9. -/

namespace Sys2Proof.Machine

open Sys2Proof

/-! ## Fields -/

/-- One byte, the low eight bits of a number. -/
def byteOf (n : Nat) : Byte := BitVec.ofNat 8 n

/-- A field of `k` bytes, most significant byte first (R159). -/
def fieldBE : Nat → Nat → List Byte
  | 0, _ => []
  | k + 1, n => byteOf (n / 256 ^ k) :: fieldBE k n

/-- A signed field of `k` bytes, two's complement (R159). -/
def fieldSigned (k : Nat) (x : Int) : List Byte := fieldBE k (x % (256 ^ k : Nat)).toNat

/-- The number a field of bytes holds, most significant byte first. -/
def numberBE (bs : List Byte) : Nat := bs.foldl (fun n b => 256 * n + b.toNat) 0

/-- The signed number a field of two bytes holds. -/
def signed16 (n : Nat) : Int := if n < 32768 then n else (n : Int) - 65536

/-- A level in mm, signed, with 8000 hexadecimal for absent (Tables 9-4 and 10-3). -/
def levelField : Option Int → List Byte
  | some x => fieldSigned 2 x
  | none => [0x80, 0x00]

/-- A flag byte: 0 clear, 1 set. -/
def flagByte (b : Bool) : Byte := if b then 1 else 0

/-! ## CRC and envelope -/

/-- Shift the CRC register by one bit; the generator is x¹⁶ + x¹² + x⁵ + 1 (R158). -/
def crcShift (r : BitVec 16) : BitVec 16 := if r.msb then (r <<< 1) ^^^ 0x1021#16 else r <<< 1

/-- Take one byte into the CRC register, most significant bit first (R158). -/
def crcByte (r : BitVec 16) (b : Byte) : BitVec 16 :=
  Nat.repeat crcShift 8 (r ^^^ (b.setWidth 16 <<< 8))

/-- The CRC over a list of bytes: the register starts at all ones, no final inversion (R158). -/
def crc16 (bs : List Byte) : BitVec 16 := bs.foldl crcByte 0xFFFF#16

/-- The envelope of a frame or notice (Table 9-1): start marker, body length, kind, body, CRC high byte first. -/
def envelope (kind : Byte) (body : List Byte) : List Byte :=
  let covered := byteOf body.length :: kind :: body
  0xA5 :: (covered ++ fieldBE 2 (crc16 covered).toNat)

/-! ## Kinds (Tables 9-7 and 9-8) -/

/-- LIFT. -/
def kindLift : Byte := 0x01
/-- WITHDRAW. -/
def kindWithdraw : Byte := 0x02
/-- QUERY. -/
def kindQuery : Byte := 0x03
/-- SET REPORT. -/
def kindSetReport : Byte := 0x04
/-- PORT RESET. -/
def kindPortReset : Byte := 0x05
/-- PLAN. -/
def kindPlan : Byte := 0x11
/-- MARK. -/
def kindMark : Byte := 0x12
/-- STAGE. -/
def kindStage : Byte := 0x13
/-- ADOPT. -/
def kindAdopt : Byte := 0x14
/-- PIN. -/
def kindPin : Byte := 0x15
/-- UNPIN. -/
def kindUnpin : Byte := 0x16
/-- HOLD. -/
def kindHold : Byte := 0x17
/-- RELEASE. -/
def kindRelease : Byte := 0x18
/-- CLEAR. -/
def kindClear : Byte := 0x19
/-- GATE CLEAR. -/
def kindGateClear : Byte := 0x1A
/-- POLL. -/
def kindPoll : Byte := 0x1B
/-- REPLY, station to district. -/
def kindReply : Byte := 0x81
/-- ORDER DONE, station to district. -/
def kindOrderDone : Byte := 0x82
/-- STATUS REPORT, station to district. -/
def kindReport : Byte := 0x83
/-- STATION REPLY, on the river line. -/
def kindStationReply : Byte := 0x91

/-! ## Codes -/

/-- Station state (Table 9-5). -/
def StationState.code : StationState → Byte
  | .loading => 0 | .checking => 1 | .running => 2 | .halted => 3

/-- Pump state (Table 9-5). -/
def PumpState.code : PumpState → Byte
  | .offline => 0 | .idle => 1 | .priming => 2 | .primed => 3 | .starting => 4 | .lifting => 5
  | .rundown => 6 | .fault => 7 | .held => 8

/-- Fault kind (Table 9-5). -/
def FaultKind.code : FaultKind → Byte
  | .start => 1 | .overheat => 2 | .run => 3 | .prime => 4 | .stop => 5 | .supply => 6

/-- Primary kind, 0 for none (Table 9-5). -/
def primaryCode : Option FaultKind → Byte
  | none => 0
  | some k => k.code

/-- River level source (Table 9-4). -/
def RiverSource.code : RiverSource → Byte
  | .none => 0 | .gauge => 1 | .stage => 2

/-- Gauge condition (Table 10-3). -/
def GaugeCondition.code : GaugeCondition → Byte
  | .ok => 0 | .saturated => 1 | .holding => 2 | .failed => 3

/-- Image source (Table 10-3); before a read has completed no report is sent. -/
def imageSourceCode : Option ImageSource → Byte
  | some .memory => 0 | some .fuse => 1 | some .builtIn => 2 | none => 2

/-- Order class (Table 9-2). -/
def OrderClass.code : OrderClass → Byte
  | .routine => 0 | .urgent => 1

/-- Outcome of a portion in an ORDER DONE frame (Table 9-3). CANCELLED has no code: no frame carries it (R78). -/
def PortionOutcome.code : PortionOutcome → Byte
  | .complete => 0 | .drained => 1 | .withdrawn => 2 | .gateFault => 3 | .cancelled => 0xFF

/-- REPLY outcome (R161). -/
def ReplyOutcome.code : ReplyOutcome → Byte
  | .accepted => 0 | .acceptedPartial => 1 | .portDisabled => 2 | .malformed => 3 | .volumeZero => 4
  | .classDenied => 5 | .tagInUse => 6 | .unsupported => 7 | .notOwner => 8 | .intakeFault => 9
  | .queueFull => 10 | .unknownTag => 11 | .starting => 12 | .halted => 13

/-- Intake status (R161). -/
def IntakeStatus.code : IntakeStatus → Byte
  | .ok => 0 | .unmapped => 1 | .faulted => 2 | .notOwner => 3 | .duplicate => 4

/-- STATION REPLY outcome (R168). -/
def NoticeOutcome.code : NoticeOutcome → Byte
  | .done => 0 | .ignored => 1 | .nothingStaged => 2 | .stillActive => 3 | .badTarget => 4 | .rejected => 5

/-- A district number, or FF for none. -/
def holderByte : Option DistrictId → Byte
  | some d => byteOf d.val
  | none => 0xFF

/-- A pin, or FF for none. -/
def pinByte : Option (Fin 4) → Byte
  | some p => byteOf p.val
  | none => 0xFF

/-- The body of a REPLY (R161). -/
def Reply.body (r : Reply) : List Byte :=
  [r.kind, r.tag, r.outcome.code, byteOf r.statuses.length] ++ r.statuses.map IntakeStatus.code

/-- The eight bytes of one portion of an ORDER DONE frame (Table 9-3). -/
def DonePortion.body (p : DonePortion) : List Byte :=
  byteOf p.bay.val :: fieldBE 2 p.target ++ (p.outcome.code :: fieldBE 4 p.lifted)

/-- The body of an ORDER DONE frame (Table 9-3). -/
def DoneFrame.body (f : DoneFrame) : List Byte :=
  [f.tag, f.cls.code, byteOf f.portions.length] ++ f.portions.flatMap DonePortion.body

end Sys2Proof.Machine
end

