-- ==== Sys2Proof/Machine/Settings.lean ====
section
/-! DEFINITION. Taking the settings image: the choice of its source (R176) and the values each block takes from it, held to
their ranges (R177, Table 10-5). -/

namespace Sys2Proof.Machine

open Sys2Proof

/-- The marker an image begins with (R176). -/
def imageMarker : BitVec 16 := 0x4D36

/-- The source answers (or is programmed) and its first two bytes are the marker (R176). -/
def sourcePresent (r : SourceRead) : Bool := r.answers && r.marker == imageMarker

/-- The checksum is the CRC of every byte between marker and checksum; a read that broke off counts as a checksum that
differs (R176). The data sheet does not give the image's one fixed length, so a payload of any length is taken (DESIGN
CHOICE, notes/assumptions/27.md). -/
def sourceGood (r : SourceRead) : Bool := r.whole && crc16 r.payload == r.checksum

/-- What the Settings Loader comes to (R176, R178). -/
inductive LoadResult where
  | halted
  | image (source : ImageSource) (i : Image)
  | builtIn
  deriving DecidableEq, Repr

/-- The choice of Table 10-4: a memory that holds the marker commits the station to it; a fuse block with the marker and
a bad checksum is passed over. -/
def chooseImage (memory fuse : SourceRead) : LoadResult :=
  if sourcePresent memory then (if sourceGood memory then .image .memory memory.image else .halted)
  else if sourcePresent fuse && sourceGood fuse then .image .fuse fuse.image
  else .builtIn

/-- A phase entry with its three clamped fields held to their ranges (R3, R5). -/
def clampEntry (e : PhaseEntry) : PhaseEntry :=
  { e with
    duration := min e.duration 1440, ceiling := min e.ceiling 20000, allowance := min e.allowance 1000000 }

/-- The default plan as taken (R3): clamped like a PLAN notice, replaced by the built-in default plan when its phase count
lies outside 1 to 4. -/
def takePlan (p : PlanImage) : Plan :=
  if 1 ≤ p.phaseCount ∧ p.phaseCount ≤ 4 then
    { number := p.number, entries := (p.entries.toList.take p.phaseCount).map clampEntry }
  else builtInPlan

/-- A district's settings as taken: mask bits 10 to 15 ignored, the interval held to 3,600 (R177). -/
def takeDistrict (d : DistrictImage) : DistrictSettings :=
  { enabled := d.enabled, critical := d.critical, mask := d.mask &&& 0x03FF, interval := min d.interval 3600 }

/-- A Bay Map entry as taken (R61): MAPPED when marked so with a bay and at least one owner. -/
def takeMap (m : MapImage) : Option MapEntry :=
  if m.mapped ∧ m.owners.toList.any id = true then m.bay.map fun b => { bay := b, owners := m.owners } else none

/-- A gauge's settings as taken (R25). -/
def takeGauge (g : GaugeImage) : GaugeSettings :=
  { kind := g.kind.getD .depth, mount := clampInt (-10000) 10000 g.mount, span := clampNat 100 20000 g.span,
    trim := clampInt (-500) 500 g.trim }

/-- A bay's settings as taken (R37, R106). -/
def takeBay (b : BayImage) : BaySettings :=
  { startLevel := clampInt (-10000) 10000 b.startLevel, stopLevel := clampInt (-10000) 10000 b.stopLevel,
    loss := clampInt 0 2000 b.loss }

/-- A pump's settings as taken: the curve as it stands (R38), a policy code naming neither taken as TRIP (R125). -/
def takePump (p : PumpImage) : PumpSettings := { curve := p.curve, overheat := p.overheat.getD .trip }

/-- The settings as taken from an image (R177). -/
def takeSettings (i : Image) : Settings :=
  { address := clampNat 1 254 i.address, groups := i.groups, acceptAll := i.acceptAll,
    bitRate := i.bitRate.getD .b19200,
    districts := Vector.ofFn fun d => takeDistrict i.districts[d],
    bayMap := Vector.ofFn fun n => takeMap i.bayMap[n],
    pumps := Vector.ofFn fun p => takePump i.pumps[p],
    bays := Vector.ofFn fun b => takeBay i.bays[b],
    gauges := Vector.ofFn fun g => takeGauge i.gauges[g],
    selfCheck := clampNat 5 120 i.limits.selfCheck, prime := clampNat 30 900 i.limits.prime,
    primeHold := clampNat 60 3600 i.limits.primeHold, startConfirm := clampNat 2 30 i.limits.startConfirm,
    rundown := clampNat 10 300 i.limits.rundown, travel := clampNat 10 600 i.limits.travel,
    feeder := clampNat 1 6 i.limits.feeder, stagger := clampNat 5 300 i.limits.stagger,
    shedMargin := min i.limits.shedMargin 1000, freshness := clampNat 60 3600 i.limits.freshness }

/-- The working start level of a bay (R106): the stop level plus 100 mm when the start level taken is at or below the stop
level. -/
def BaySettings.workingStart (b : BaySettings) : Int :=
  if b.startLevel ≤ b.stopLevel then b.stopLevel + 100 else b.startLevel

end Sys2Proof.Machine
end

