-- ==== Sys2Proof/Machine/Operands.lean ====
section
/-! DEFINITION. The operand forms of frames and notices: what the bytes of each body say (R159, Tables 9-2 and 9-6, R161,
R162, R166). -/

namespace Sys2Proof.Machine

open Sys2Proof

/-! ## District frames -/

/-- A LIFT body of at least five bytes (Table 9-2), as sent. -/
structure LiftBody where
  tag : Byte
  classCode : Byte
  target : Nat
  count : Nat
  intakes : List Nat
  deriving DecidableEq, Repr

/-- Read a LIFT body. -/
def readLift : List Byte → Option LiftBody
  | tag :: cls :: t1 :: t0 :: n :: rest =>
    some { tag := tag, classCode := cls, target := numberBE [t1, t0], count := n.toNat, intakes := rest.map BitVec.toNat }
  | _ => none

/-- The class a class code names (Table 9-2). -/
def classOf (c : Byte) : Option OrderClass :=
  if c = 0 then some .routine else if c = 1 then some .urgent else none

/-- The form of a LIFT is good (R64): a class, a count of 1 to 8, and exactly as many intakes as the count names. -/
def LiftBody.formClass (l : LiftBody) : Option OrderClass :=
  if 1 ≤ l.count ∧ l.count ≤ 8 ∧ l.intakes.length = l.count then classOf l.classCode else none

/-- The tag a REPLY carries (R161): the first body byte of a LIFT or WITHDRAW whose body has one, and 0 otherwise. -/
def replyTag (kind : Byte) (body : List Byte) : Byte :=
  if kind = kindLift ∨ kind = kindWithdraw then body.headD 0 else 0

/-- A SET REPORT body (R162): mask and interval, two bytes each. -/
def readSetReport : List Byte → Option (BitVec 16 × Nat)
  | [m1, m0, i1, i0] => some (BitVec.ofNat 16 (numberBE [m1, m0]), numberBE [i1, i0])
  | _ => none

/-! ## River notices -/

/-- How an accepted notice was addressed (R166). -/
inductive Destination where
  | station
  | group
  | all
  deriving DecidableEq, Repr

/-- The filter of R166: the destination of a notice, when the station accepts it. -/
def Settings.accepts (t : Settings) : List Byte → Option Destination
  | kind :: value :: _ =>
    if kind = 0 then (if value.toNat = t.address then some .station else none)
    else if kind = 1 then (if value.toNat < 32 ∧ t.groups.getLsbD value.toNat = true then some .group else none)
    else if kind = 2 then (if t.acceptAll = true then some .all else none)
    else none
  | _ => none

/-- The four 4-bit weights of a phase entry (Table 9-6): D0 in the high nibble of the first byte, D3 in the low nibble of
the second. -/
def readWeights (w8 w9 : Byte) : Vector Nat 4 :=
  #v[w8.toNat / 16, w8.toNat % 16, w9.toNat / 16, w9.toNat % 16]

/-- The phase entries of a PLAN body, twelve bytes each (Table 9-6), as sent. -/
def readEntries : List Byte → List PhaseEntry
  | d1 :: d0 :: c1 :: c0 :: a3 :: a2 :: a1 :: a0 :: w8 :: w9 :: r1 :: r0 :: rest =>
    { duration := numberBE [d1, d0], ceiling := numberBE [c1, c0], allowance := numberBE [a3, a2, a1, a0],
      weights := readWeights w8 w9, runCap := numberBE [r1, r0] } :: readEntries rest
  | _ => []

/-- A PLAN body after its destination: the plan with the clamps of R5, or none when the Plan Store rejects it (R4). -/
def readPlan : List Byte → Option Plan
  | n1 :: n0 :: p :: rest =>
    if 1 ≤ p.toNat ∧ p.toNat ≤ 4 ∧ rest.length = 12 * p.toNat then
      some { number := numberBE [n1, n0], entries := (readEntries rest).map clampEntry }
    else none
  | _ => none

/-- The level a STAGE carries (Table 9-8), held to the range of a level (R33). -/
def readStage (rest : List Byte) : Int := clampInt (-10000) 10000 (signed16 (numberBE rest))

/-- The one byte of a PIN, HOLD, RELEASE, CLEAR or GATE CLEAR after its destination, as a number below `n`; none is
BAD_TARGET. -/
def readTarget (n : Nat) (rest : List Byte) : Option (Fin n) :=
  if h : (rest.headD 0).toNat < n then some ⟨(rest.headD 0).toNat, h⟩ else none

end Sys2Proof.Machine
end

