-- ==== Sys2Proof/Machine/Plans.lean ====
section
/-! DEFINITION. The Plan Store and the Phase Sequencer's shared readings: the active plan, the governing phase entry, the swap
(sections 1.2 to 1.9). -/

namespace Sys2Proof.Machine

open Sys2Proof

/-- The plan in force (R2). The active bank is always LOADED; were it not, the built-in default plan would stand for it. -/
def State.activePlan (s : State) : Plan := (s.plans.banks[s.plans.active]).getD builtInPlan

/-- The inactive bank. -/
def PlanStore.inactive (p : PlanStore) : BankId := p.active + 1

/-- The staged plan: the plan of the inactive bank when it is LOADED (R2). -/
def State.stagedPlan (s : State) : Option Plan := s.plans.banks[s.plans.inactive]

/-- A phase entry of zeros, read where a plan has no entry at an index (no reachable state reads it). -/
def zeroEntry : PhaseEntry := { duration := 0, ceiling := 0, allowance := 0, weights := #v[0, 0, 0, 0], runCap := 0 }

/-- The entry of phase `n` of a plan. -/
def Plan.entry (p : Plan) (n : Nat) : PhaseEntry := p.entries.getD n zeroEntry

/-- The entry of the current phase (R14 reads its duration, whatever the pin). -/
def State.currentEntry (s : State) : PhaseEntry := s.activePlan.entry s.sequencer.phase

/-- The index of the governing phase entry (R17): the current phase, or the pin held to the plan's last phase. -/
def State.governingPhase (s : State) : Nat :=
  match s.sequencer.pin with
  | none => s.sequencer.phase
  | some p => min p.val (s.activePlan.entries.length - 1)

/-- The governing phase entry (R17). -/
def State.governing (s : State) : PhaseEntry := s.activePlan.entry s.governingPhase

/-- The current phase is the last of the active plan. -/
def State.inLastPhase (s : State) : Prop := s.activePlan.entries.length ≤ s.sequencer.phase + 1

/-- A swap (R7): the selector moves to the inactive bank, the bank active until then becomes EMPTY, PLAN_ADOPTED is
raised. -/
def State.swapBanks (s : State) : State :=
  ((s.withPlans
      { s.plans with banks := s.plans.banks.set s.plans.active none, active := s.plans.inactive }).raiseStation
        .planAdopted).reportAll .planAdopted

/-- The Plan Store examines the inactive bank at a phase-0 boundary (R8, R10): in AUTO mode a staged plan is swapped in. -/
def State.examineBank (s : State) : State :=
  if s.plans.adoption = .auto ∧ s.stagedPlan.isSome = true then s.swapBanks else s

/-- The Phase Sequencer enters phase `n` (R13): phase index, seconds elapsed, and the cycle count at phase 0. -/
def State.enterPhase (s : State) (n : Nat) : State :=
  s.withSequencer
    { s.sequencer with
      phase := n, elapsed := 0, cycle := if n = 0 then s.sequencer.cycle + 1 else s.sequencer.cycle }

/-- Write a plan into the inactive bank (R6). -/
def State.stagePlan (s : State) (p : Plan) : State :=
  s.withPlans { s.plans with banks := s.plans.banks.set s.plans.inactive (some p) }

end Sys2Proof.Machine
end

