-- ==== Sys2Proof/Machine/Accounts.lean ====
section
/-! DEFINITION. The Account Table: charges, replenish, the exhausted condition (sections 3.3 to 3.6). -/

namespace Sys2Proof.Machine

open Sys2Proof

/-- Lower a credit, saturating (R50). -/
def lowerCredit (c : Int) (v : Nat) : Int := max (-Config.creditBound) (c - v)

/-- Raise a credit, saturating (R50). -/
def raiseCredit (c : Int) (v : Nat) : Int := min Config.creditBound (c + v)

/-- Charge a volume to a district account (R47). -/
def Account.charge (a : Account) (v : Nat) : Account :=
  { credit := lowerCredit a.credit v, liftedPhase := a.liftedPhase + v,
    liftedReset := min Config.liftedBound (a.liftedReset + v) }

/-- Charge a volume to a district and to the station total (R47, R52). -/
def AccountTable.charge (t : AccountTable) (d : DistrictId) (v : Nat) : AccountTable :=
  { t with districts := t.districts.set d (t.districts[d].charge v), station := t.station + v }

/-- The sum of the four weights of an entry. -/
def weightSum (e : PhaseEntry) : Nat := e.weights[0] + e.weights[1] + e.weights[2] + e.weights[3]

/-- The share of a district at a replenish (R54), in litres. -/
def shareOf (e : PhaseEntry) (d : DistrictId) : Nat :=
  if weightSum e = 0 then 0 else e.allowance * 1000 * e.weights[d] / weightSum e

/-- Replenish at a boundary (R54, R55): credits raised by the shares, phase totals set to 0, the exhausted condition as it
stood. -/
def AccountTable.replenish (t : AccountTable) (e : PhaseEntry) : AccountTable :=
  { t with
    districts := Vector.ofFn fun d : Fin 4 =>
      { t.districts[d] with credit := raiseCredit t.districts[d].credit (shareOf e d), liftedPhase := 0 },
    station := 0 }

/-- Replenish from the governing phase entry. -/
def State.replenish (s : State) : State := s.withAccounts (s.accounts.replenish s.governing)

/-- The station lifted-in-phase total is at or above the governing allowance (R57). -/
def State.atAllowance (s : State) : Bool := decide (s.governing.allowance * 1000 ≤ s.accounts.station)

end Sys2Proof.Machine
end

