-- ==== Sys2Proof/Machine/Orders.lean ====
section
/-! DEFINITION. The Order Unit's shared operations: candidates, the decode and split of a LIFT, the states of portions and the end
of an order (chapter 4). -/

namespace Sys2Proof.Machine

open Sys2Proof

/-! ## Portions of a queue -/

/-- The portion is named by this tag and bay (R67). -/
def Portion.named (p : Portion) (tag : Byte) (b : BayId) : Bool := p.tag == tag && p.bay == b

/-- The portion is ENDED. -/
def Portion.isEnded (p : Portion) : Bool :=
  match p.state with
  | .ended _ => true
  | .pending | .inService => false

/-- The portion of a district with a given tag and bay. -/
def State.portion (s : State) (d : DistrictId) (tag : Byte) (b : BayId) : Option Portion :=
  s.orders.districts[d].queue.find? fun p => p.named tag b

/-- Change every portion of a district's queue that a test picks; each keeps its place (R71). -/
def State.mapPortions (s : State) (d : DistrictId) (pick : Portion → Bool) (f : Portion → Portion) : State :=
  s.setOrders d
    { s.orders.districts[d] with queue := s.orders.districts[d].queue.map fun p => if pick p then f p else p }

/-- The portion takes a state (Table 4-3). -/
def State.setPortion (s : State) (d : DistrictId) (tag : Byte) (b : BayId) (x : PortionState) : State :=
  s.mapPortions d (fun p => p.named tag b) fun p => { p with state := x }

/-- The portion is PENDING, of a class, on a bay. -/
def Portion.waits (p : Portion) (c : OrderClass) (b : BayId) : Bool :=
  p.state == .pending && p.cls == c && p.bay == b

/-- A district's candidate portion for a bay (R72): its oldest PENDING URGENT portion there, else its oldest PENDING
ROUTINE one. -/
def State.candidate (s : State) (d : DistrictId) (b : BayId) : Option Portion :=
  (s.orders.districts[d].queue.find? fun p => p.waits .urgent b).or
    (s.orders.districts[d].queue.find? fun p => p.waits .routine b)

/-! ## The end of an order -/

/-- The entry of an ORDER DONE frame for an ended portion (R78). -/
def Portion.doneEntry (p : Portion) : Option DonePortion :=
  match p.state with
  | .ended x => some { bay := p.bay, target := p.target, outcome := x, lifted := p.lifted }
  | .pending | .inService => none

/-- The ORDER DONE frame of an order, its portions in the order of R67 (R78). -/
def composeDone (o : Order) (queue : List Portion) : DoneFrame :=
  { tag := o.tag, cls := o.cls,
    portions := o.bays.filterMap fun b => (queue.find? fun p => p.named o.tag b).bind Portion.doneEntry }

/-- The order leaves the table and its portions leave the queue (R74, R76). -/
def DistrictOrders.remove (x : DistrictOrders) (tag : Byte) : DistrictOrders :=
  { x with table := x.table.filter fun o => o.tag != tag, queue := x.queue.filter fun p => p.tag != tag }

/-- The order is FINISHED: its frame is composed and waits for a place (R70, R76). -/
def DistrictOrders.isFinished (x : DistrictOrders) (tag : Byte) : Bool := x.finished.any fun f => f.tag == tag

/-- No portion of the order remains PENDING or IN SERVICE (R74). -/
def DistrictOrders.allEnded (x : DistrictOrders) (tag : Byte) : Bool :=
  x.queue.all fun p => p.tag != tag || p.isEnded

/-- The ORDER DONE frame is queued to the district's port (R76). -/
def State.queueDone (s : State) (d : DistrictId) (f : DoneFrame) : State := s.setPort d (s.ports[d].join (.orderDone f))

/-- An order at its end (R74, R76): its frame is queued and the order leaves, or it becomes FINISHED when 4 ORDER DONE
frames already wait. -/
def State.endOrder (s : State) (d : DistrictId) (o : Order) : State :=
  let x := s.orders.districts[d]
  let f := composeDone o x.queue
  if s.ports[d].doneCount < Config.maxDone then (s.setOrders d (x.remove o.tag)).queueDone d f
  else s.setOrders d { x with finished := x.finished ++ [f] }

/-- The test of R74 for one order. -/
def State.testOrder (s : State) (d : DistrictId) (o : Order) : State :=
  let x := s.orders.districts[d]
  if x.allEnded o.tag = true ∧ x.isFinished o.tag = false then s.endOrder d o else s

/-- The test of R74 for the order of a tag. -/
def State.testTag (s : State) (d : DistrictId) (tag : Byte) : State :=
  match s.orders.districts[d].table.find? fun o => o.tag == tag with
  | some o => s.testOrder d o
  | none => s

/-- The end of a portion, as its arbiter asks for it (R74, R92, R96). -/
structure Ending where
  district : DistrictId
  tag : Byte
  bay : BayId
  outcome : PortionOutcome
  deriving DecidableEq, Repr

/-- An order of a district is that of an ended portion. -/
def Ending.isOf (e : Ending) (d : DistrictId) (o : Order) : Bool := e.district == d && e.tag == o.tag

/-- The portions that end in one event end, and then their orders are tested, each district's in the order in which they
were accepted (R74). -/
def State.endPortions (s : State) (es : List Ending) : State :=
  let t := s.each es fun u e => u.setPortion e.district e.tag e.bay (.ended e.outcome)
  t.each allDistricts fun u d =>
    u.each (s.orders.districts[d].table.filter fun o => es.any fun e => e.isOf d o) fun v o => v.testOrder d o

/-- A place for an ORDER DONE has come free: the frame of the FINISHED order that ended first is queued (R76). -/
def State.placeFreed (s : State) (d : DistrictId) : State :=
  let x := s.orders.districts[d]
  match x.finished with
  | f :: rest => (s.setOrders d { x.remove f.tag with finished := rest }).queueDone d f
  | [] => s

/-! ## Decoding and splitting a LIFT -/

/-- The Bay Map entry of an intake number as a LIFT gives it; none is a number of 16 or above, or UNMAPPED (R65, R66). -/
def State.mapped (s : State) (n : Nat) : Option (IntakeId × MapEntry) :=
  if h : n < 16 then (s.settings.bayMap[n]).map fun m => (⟨n, h⟩, m) else none

/-- Rows 6 to 8 of Table 4-2: why the first intake refuses the order, if it does (R65). -/
def State.firstRefusal (s : State) (d : DistrictId) (n : Nat) : Option ReplyOutcome :=
  match s.mapped n with
  | none => some .unsupported
  | some (i, m) =>
    if m.owners[d] = false then some .notOwner
    else if s.orders.faulted[i] = true then some .intakeFault
    else none

/-- The status of an intake after the first, given the intakes kept before it (R66). -/
def State.laterStatus (s : State) (d : DistrictId) (kept : List (IntakeId × BayId)) (n : Nat) : IntakeStatus :=
  match s.mapped n with
  | none => .unmapped
  | some (i, m) =>
    if s.orders.faulted[i] = true then .faulted
    else if m.owners[d] = false then .notOwner
    else if kept.any (fun k => k.1 == i) = true then .duplicate
    else .ok

/-- Decode an intake list from a kept list on (R66): the statuses, and the kept list with each intake's bay. The first
intake, with nothing kept before it and past rows 6 to 8, comes out OK by the same table. -/
def State.decodeIntakes (s : State) (d : DistrictId) :
    List (IntakeId × BayId) → List Nat → List IntakeStatus × List (IntakeId × BayId)
  | kept, [] => ([], kept)
  | kept, n :: rest =>
    let x := s.laterStatus d kept n
    let kept' := match x, s.mapped n with
      | .ok, some (i, m) => kept ++ [(i, m.bay)]
      | _, _ => kept
    let (xs, all) := s.decodeIntakes d kept' rest
    (x :: xs, all)

/-- The bays of a kept list, by first appearance (R67). -/
def baysInOrder (kept : List (IntakeId × BayId)) : List BayId :=
  kept.foldl (fun bs k => if k.2 ∈ bs then bs else bs ++ [k.2]) []

/-- The number of kept intakes on a bay (R68). -/
def keptOn (kept : List (IntakeId × BayId)) (b : BayId) : Nat := kept.countP fun k => k.2 == b

/-- The floored share of a bay in a target (R68). -/
def bayShare (v : Nat) (kept : List (IntakeId × BayId)) (b : BayId) : Nat := v * keptOn kept b / kept.length

/-- A portion at acceptance: PENDING, or already ENDED COMPLETE with a target of 0 (R68, R69). -/
def newPortion (tag : Byte) (cls : OrderClass) (kept : List (IntakeId × BayId)) (b : BayId) (target : Nat) : Portion :=
  { tag := tag, cls := cls, bay := b, target := target,
    intakes := (kept.filter fun k => k.2 == b).map fun k => k.1,
    lifted := 0, state := if target = 0 then .ended .complete else .pending }

/-- The portions of an order (R67, R68): the remainder of the split falls to the first. -/
def splitOrder (tag : Byte) (cls : OrderClass) (v : Nat) (kept : List (IntakeId × BayId)) : List Portion :=
  match baysInOrder kept with
  | [] => []
  | b :: rest =>
    newPortion tag cls kept b
        (bayShare v kept b + (v - ((b :: rest).map (bayShare v kept)).sum)) ::
      rest.map fun c => newPortion tag cls kept c (bayShare v kept c)

/-- What becomes of a LIFT (Table 4-2, R69). -/
inductive LiftResult where
  | refused (outcome : ReplyOutcome)
  | accepted (order : Order) (portions : List Portion) (statuses : List IntakeStatus)
  deriving DecidableEq, Repr

/-- Rows 6 to 9 of Table 4-2 and the decode (R65 to R69), for a LIFT of good form. -/
def State.judgeIntakes (s : State) (d : DistrictId) (l : LiftBody) (cls : OrderClass) : LiftResult :=
  match s.firstRefusal d (l.intakes.headD 0) with
  | some r => .refused r
  | none =>
    let (statuses, kept) := s.decodeIntakes d [] l.intakes
    let portions := splitOrder l.tag cls l.target kept
    let x := s.orders.districts[d]
    if Config.maxOrders < x.table.length + 1 ∨ Config.maxPortions < x.queue.length + portions.length then
      .refused .queueFull
    else
      .accepted { tag := l.tag, cls := cls, target := l.target, bays := portions.map Portion.bay } portions statuses

/-- The checks of Table 4-2, the first row that holds deciding (R63). -/
def State.judgeLift (s : State) (d : DistrictId) (body : List Byte) : LiftResult :=
  let x := s.settings.districts[d]
  if x.enabled = false then .refused .portDisabled
  else
    match readLift body with
    | none => .refused .malformed
    | some l =>
      match l.formClass with
      | none => .refused .malformed
      | some cls =>
        if l.target = 0 then .refused .volumeZero
        else if cls = .urgent ∧ x.critical = false then .refused .classDenied
        else if s.orders.districts[d].table.any (fun o => o.tag == l.tag) = true then .refused .tagInUse
        else s.judgeIntakes d l cls

/-- Enter an accepted order and its portions (R69). -/
def State.enterOrder (s : State) (d : DistrictId) (o : Order) (ps : List Portion) : State :=
  let x := s.orders.districts[d]
  s.setOrders d { x with table := x.table ++ [o], queue := x.queue ++ ps }

/-- Table 4-2's answer to an accepted order (R69). -/
def acceptOutcome (statuses : List IntakeStatus) : ReplyOutcome :=
  if statuses.all (fun x => x == .ok) then .accepted else .acceptedPartial

end Sys2Proof.Machine
end

