-- ==== Sys2Proof/Machine/Gates.lean ====
section
/-! DEFINITION. The Gate Controller's shared operations: the drives, the start of a travel, the OPEN and CLOSE commands (chapter
8). -/

namespace Sys2Proof.Machine

open Sys2Proof

/-- OPEN DRIVE (Table 8-2). -/
def Gate.openDrive (g : Gate) : Bool := g.state == .opening

/-- CLOSE DRIVE (Table 8-2). -/
def Gate.closeDrive (g : Gate) : Bool := g.state == .closing

/-- A travel's timer at its start: the full travel limit while the station is CHECKING or RUNNING; in LOADING and HALTED
the timer does not count (R146, R154). -/
def State.travelTimer (s : State) : Option Nat := if s.isLive then some s.settings.travel else none

/-- The gate enters OPENING; with AT OPEN already true it enters OPEN at once (R147). -/
def State.startOpening (s : State) (i : IntakeId) : State :=
  if s.pins.atOpen[i] then s.setGate i { state := .opened, timer := none }
  else s.setGate i { state := .opening, timer := s.travelTimer }

/-- The gate enters CLOSING; with AT SHUT already true it enters SHUT at once (R148). -/
def State.startClosing (s : State) (i : IntakeId) : State :=
  if s.pins.atShut[i] then s.setGate i { state := .shut, timer := none }
  else s.setGate i { state := .closing, timer := s.travelTimer }

/-- An OPEN command (R147). -/
def State.openGate (s : State) (i : IntakeId) : State :=
  match s.gates[i].state with
  | .shut | .closing => s.startOpening i
  | .opening | .opened | .jammed => s

/-- A CLOSE command (R148). -/
def State.closeGate (s : State) (i : IntakeId) : State :=
  match s.gates[i].state with
  | .opened | .opening => s.startClosing i
  | .closing | .shut | .jammed => s

/-- OPEN commands to several intakes. -/
def State.openGates (s : State) (xs : List IntakeId) : State := s.each xs fun t i => t.openGate i

/-- CLOSE commands to several intakes. -/
def State.closeGates (s : State) (xs : List IntakeId) : State := s.each xs fun t i => t.closeGate i

/-- The intake's owner set holds the district (R61). -/
def Settings.owns (t : Settings) (i : IntakeId) (d : DistrictId) : Bool :=
  match t.bayMap[i] with
  | some m => m.owners[d]
  | none => false

/-- The gate's state at a station reset, from its AT SHUT input (R154). -/
def resetGate (atShut : Bool) : Gate := { state := if atShut then .shut else .closing, timer := none }

end Sys2Proof.Machine
end

