-- ==== Sys2Proof/Machine/Levels.lean ====
section
/-! DEFINITION. The Gauge Unit and the flow of a pump: loop readings, levels, smoothing, holding and failure, the river level
source, head, and the pump curve (chapter 2). -/

namespace Sys2Proof.Machine

open Sys2Proof

/-! ## Loop readings -/

/-- The raw count of a loop, or none for LOOP OPEN (R24, Table 2-1). Inside the span the count rises in equal steps; where
between two steps the count changes is the free value `Config.roundingThreshold`. -/
def rawCount : LoopInput → Option Nat
  | .loopOpen => none
  | .count r => some (min r 4095)
  | .current i =>
    if i < 3600 then none
    else if i ≤ 4000 then some 0
    else if 20000 ≤ i then some 4095
    else
      let low := (i - 4000) * 4095 / 16000
      let past := (i - 4000) * 4095 % 16000
      some (if 0 < past ∧ Config.roundingThreshold ≤ past then low + 1 else low)

/-- The unclamped level of a raw count (R26). -/
def unclampedLevel (g : GaugeSettings) (r : Nat) : Int :=
  match g.kind with
  | .depth => g.mount + (r * g.span / 4095 : Nat) + g.trim
  | .range => g.mount - (r * g.span / 4095 : Nat) + g.trim

/-- The level a good reading gives (R26). -/
def levelOf (g : GaugeSettings) (r : Nat) : Int := clampInt (-10000) 10000 (unclampedLevel g r)

/-- A good reading is at the rail or clamped (R27). -/
def saturates (g : GaugeSettings) (r : Nat) : Bool := r == 0 || r == 4095 || levelOf g r != unclampedLevel g r

/-- A level joins the smoothing window at its newest end; a full window loses its oldest level (R28). -/
def joinWindow (w : List Int) (x : Int) : List Int := (w ++ [x]).drop (w.length + 1 - Config.windowSize)

/-- The effect of a reading on a gauge record (Table 2-3). -/
def GaugeRecord.read (g : GaugeSettings) (x : GaugeRecord) (i : LoopInput) : GaugeRecord :=
  match rawCount i with
  | some r =>
    { window := if x.condition = .failed then [levelOf g r] else joinWindow x.window (levelOf g r),
      holdCount := 0,
      condition := if saturates g r then .saturated else .ok }
  | none =>
    match x.condition with
    | .failed => x
    | .ok | .saturated => { x with holdCount := x.holdCount + 1, condition := .holding }
    | .holding =>
      if x.holdCount < Config.holdLimit then { x with holdCount := x.holdCount + 1 }
      else { x with window := [], condition := .failed }

/-- The smoothed level (R28): the floor of the mean of the window; invalid in FAILED and while the window is empty. -/
def GaugeRecord.level (x : GaugeRecord) : Option Int :=
  if x.condition = .failed ∨ x.window = [] then none else some (x.window.sum / (x.window.length : Int))

/-- The level of a bay: the smoothed level of its gauge at the latest reading (R106). -/
def State.bayLevel (s : State) (b : BayId) : Option Int := s.gauges.records[gaugeOf b].level

/-- The bay's gauge is FAILED. -/
def State.gaugeFailed (s : State) (b : BayId) : Prop := s.gauges.records[gaugeOf b].condition = .failed

/-! ## River level and head -/

/-- The stage record is fresh at a reading (R34). -/
def State.stageFresh (s : State) : Option Int :=
  match s.gauges.stage with
  | some x => if s.second - x.arrival ≤ s.settings.freshness then some x.level else none
  | none => none

/-- The river level source and the river level (R35, Table 2-4). -/
def State.chooseRiver (s : State) : RiverSource × Option Int :=
  match s.gauges.records[0].level with
  | some x => (.gauge, some x)
  | none =>
    match s.stageFresh with
    | some x => (.stage, some x)
    | none => (.none, none)

/-- The head of a bay (R37): river level less bay level plus loss; invalid when either level is. -/
def headOf (river bay : Option Int) (loss : Int) : Option Int :=
  match river, bay with
  | some r, some b => some (r - b + loss)
  | _, _ => none

/-- A gauge became FAILED between two records. -/
def becameFailed (old new : GaugeRecord) : Bool := old.condition != .failed && new.condition == .failed

/-- Head-blind becomes set: the station flag and the report events (R36). -/
def State.raiseHeadBlind (s : State) : State := (s.raiseStation .headBlind).reportAll .headBlind

/-- One reading of the four loops (R23 to R37): the records, then the river level source, then the heads; GAUGE_FAILED
when a gauge fails and HEAD_BLIND when the condition becomes set. -/
def State.readGauges (s : State) (inputs : Vector LoopInput 4) : State :=
  let records := Vector.ofFn fun g : Fin 4 => s.gauges.records[g].read s.settings.gauges[g] inputs[g]
  let t := s.withGauges { s.gauges with records := records }
  let (source, river) := t.chooseRiver
  let u := t.withGauges
    { t.gauges with
      source := source, river := river, headBlind := source == .none,
      heads := Vector.ofFn fun b : Fin 3 => headOf river (t.bayLevel b) s.settings.bays[b].loss }
  let v := if [(0 : GaugeId), 1, 2, 3].any fun g => becameFailed s.gauges.records[g] records[g] then
      u.raiseStation .gaugeFailed else u
  if s.gauges.headBlind = false ∧ source = .none then v.raiseHeadBlind else v

/-! ## Pump curves -/

/-- Neighbouring points of a list satisfy a relation. -/
def pairwiseNext (r : CurvePoint → CurvePoint → Bool) : List CurvePoint → Bool
  | a :: b :: rest => r a b && pairwiseNext r (b :: rest)
  | _ => true

/-- A curve is valid (R38). -/
def curveValid (curve : Vector CurvePoint 8) : Bool :=
  pairwiseNext (fun a b => decide (a.head < b.head) && decide (b.flow ≤ a.flow)) curve.toList
    && curve.toList.all (fun x => decide (-20000 ≤ x.head) && decide (x.head ≤ 22000))
    && decide (curve[0].flow ≤ 5000) && decide (0 ≤ curve[7].flow)

/-- The flow on the segment of a list of points that holds the head `h`, for a head at or above the first point (R39). At
or beyond the last point it is the last flow. -/
def segmentFlow (h : Int) : List CurvePoint → Int
  | a :: b :: rest =>
    if h < b.head then a.flow - (a.flow - b.flow) * (h - a.head) / (b.head - a.head)
    else segmentFlow h (b :: rest)
  | [a] => a.flow
  | [] => 0

/-- The flow of a curve at a head (R39). -/
def flowAt (curve : Vector CurvePoint 8) (h : Int) : Int :=
  if h ≤ curve[0].head then curve[0].flow else segmentFlow h curve.toList

/-- The computed flow of a pump at its bay's head (R39, R40): absent when the head or the curve is invalid. -/
def computedFlow (curve : Vector CurvePoint 8) (head : Option Int) : Option Nat :=
  match head with
  | some h => if curveValid curve then some (flowAt curve h).toNat else none
  | none => none

end Sys2Proof.Machine
end

