-- ==== Sys2Proof/Machine/Pumps.lean ====
section
/-! DEFINITION. The Pump Controller's shared operations: outputs, entry to each state with its timer and break pulse, the fault
record, overheat, supply, clearing, and the Roster's requests (chapter 7, R122). -/

namespace Sys2Proof.Machine

open Sys2Proof

/-! ## Outputs (Table 7-2) -/

/-- RUN. -/
def Pump.runOut (q : Pump) : Bool := q.state == .starting || q.state == .lifting

/-- PRIME. -/
def Pump.primeOut (q : Pump) : Bool := q.state == .priming || q.state == .primed

/-- BREAK: held on in OFFLINE, RUNDOWN and FAULT, pulsed in IDLE and HELD (R123). -/
def Pump.breakOut (q : Pump) : Bool :=
  match q.state with
  | .offline | .rundown | .fault => true
  | .idle | .held => q.pulse.isSome
  | .priming | .primed | .starting | .lifting => false

/-! ## Serviceability (R85) -/

/-- A pump state that counts toward serviceable (Table 5-2). -/
def PumpState.serves : PumpState → Bool
  | .idle | .priming | .primed | .starting | .lifting => true
  | .offline | .rundown | .fault | .held => false

/-- The service of a bay (R85). -/
def State.service (s : State) (b : BayId) : Service :=
  if s.gauges.records[gaugeOf b].condition = .failed then .outOfService
  else if (pumpsOf b).any fun p => s.pumps[p].state.serves then .serviceable
  else if (pumpsOf b).any fun p => s.pumps[p].state == .rundown then .neither
  else .outOfService

/-! ## Entering a state -/

/-- The state timer on entry to a state (R125, Table 7-4). OFFLINE is entered only by a station reset. -/
def entryTimer (t : Settings) : PumpState → StateTimer
  | .priming => .running t.prime
  | .primed => .running t.primeHold
  | .starting => .running t.startConfirm
  | .rundown => .running t.rundown
  | .offline | .idle | .lifting | .fault | .held => .stopped

/-- The break pulse on entry to a state (R123): started on entry to IDLE or HELD from PRIMING or PRIMED. -/
def entryPulse (old new : PumpState) : Option Nat :=
  match old, new with
  | .priming, .idle | .priming, .held | .primed, .idle | .primed, .held => some Config.breakPulse
  | _, _ => none

/-- The start sequence number of a pump is removed (R114). -/
def State.dropNumber (s : State) (p : PumpId) : State :=
  s.withRoster { s.roster with numbers := s.roster.numbers.set p none }

/-- The controller reports the change of pump state that led here from `old` (R124). -/
def State.reportMove (s old : State) (p : PumpId) : State :=
  s.withReports
    (s.reports ++
      [{ pump := p, left := old.pumps[p].state, entered := s.pumps[p].state, before := old.service (bayOf p),
         after := s.service (bayOf p) }])

/-- The pump enters a state: its timer and pulse are set, a pump that leaves STARTING and LIFTING loses its start
sequence number (R114, R123, R125), and the controller reports the change (R124). -/
def State.moveTo (s : State) (p : PumpId) (new : PumpState) : State :=
  let t := s.setPump p
    { s.pumps[p] with state := new, timer := entryTimer s.settings new, pulse := entryPulse s.pumps[p].state new }
  (if s.pumps[p].state.counts && !new.counts then t.dropNumber p else t).reportMove s p

/-- The station flag and report event PUMP_FAULT (R133). -/
def State.raisePumpFault (s : State) : State := (s.raiseStation .pumpFault).reportAll .pumpFault

/-- The pump enters FAULT with a primary kind and a noted list (R132, R133). -/
def State.faultWith (s : State) (p : PumpId) (k : FaultKind) (noted : List FaultKind) : State :=
  ((s.setPump p { s.pumps[p] with primary := some k, noted := noted }).moveTo p .fault).raisePumpFault

/-- The pump enters IDLE; while HOT is true it goes on to FAULT with OVERHEAT (R136). -/
def State.toIdle (s : State) (p : PumpId) : State :=
  let t := s.moveTo p .idle
  if t.pins.hot[p] then t.faultWith p .overheat t.pumps[p].noted else t

/-! ## The fault record -/

/-- A pump with no kind left leaves FAULT, for HELD when its hold flag is set and for IDLE otherwise (R134). -/
def State.leaveFault (s : State) (p : PumpId) : State :=
  let t := s.setPump p { s.pumps[p] with primary := none, noted := [] }
  if s.pumps[p].hold then t.moveTo p .held else t.toIdle p

/-- The kinds `gone` leave the record of a pump in FAULT or RUNDOWN, and the record closes up around them (R134, R140). -/
def State.closeUp (s : State) (p : PumpId) (gone : FaultKind → Bool) : State :=
  let q := s.pumps[p]
  let noted := q.noted.filter fun k => !gone k
  match q.state with
  | .fault =>
    match q.primary with
    | some k =>
      if gone k then
        match noted with
        | [] => s.leaveFault p
        | n :: rest => s.setPump p { q with primary := some n, noted := rest }
      else s.setPump p { q with noted := noted }
    | none => s
  | .rundown => s.setPump p { q with noted := noted }
  | .offline | .idle | .priming | .primed | .starting | .lifting | .held => s

/-- The kinds that clear by themselves (R139). -/
def FaultKind.selfClears : FaultKind → Bool
  | .run | .prime => true
  | .start | .overheat | .stop | .supply => false

/-- RUN and PRIME leave the record of a pump in FAULT whose bay holds no grant and whose READY is true (R139). -/
def State.selfClear (s : State) (p : PumpId) : State :=
  if s.pumps[p].state = .fault ∧ s.grantOf (bayOf p) = none ∧ s.pins.ready[p] = true then
    s.closeUp p FaultKind.selfClears
  else s

/-- Kinds leave the record; a kind promoted to primary may then clear by itself (R134, R139). -/
def State.clearKinds (s : State) (p : PumpId) (gone : FaultKind → Bool) : State := (s.closeUp p gone).selfClear p

/-- The pump enters FAULT from a state other than FAULT, keeping its noted list; R139 is tested on entry. -/
def State.fault (s : State) (p : PumpId) (k : FaultKind) : State := (s.faultWith p k s.pumps[p].noted).selfClear p

/-- A kind is appended to the noted list, unless the record holds it already (R132, R133). -/
def State.note (s : State) (p : PumpId) (k : FaultKind) : State :=
  if s.pumps[p].primary = some k ∨ k ∈ s.pumps[p].noted then s
  else (s.setPump p { s.pumps[p] with noted := s.pumps[p].noted ++ [k] }).raisePumpFault

/-! ## Rundown, lifting, starting, priming -/

/-- The end of a rundown (R131): FAULT with the oldest noted kind, else HELD, else IDLE. -/
def State.endRundown (s : State) (p : PumpId) : State :=
  match s.pumps[p].noted with
  | k :: rest => (s.faultWith p k rest).selfClear p
  | [] => if s.pumps[p].hold then s.moveTo p .held else s.toIdle p

/-- The pump enters RUNDOWN; with RUNNING already false the rundown ends at once (R131). -/
def State.toRundown (s : State) (p : PumpId) : State :=
  let t := s.moveTo p .rundown
  if t.pins.running[p] then t else t.endRundown p

/-- HOT at a STARTING or LIFTING pump, by its overheat policy (R135). -/
def State.hotWhileRunning (s : State) (p : PumpId) : State :=
  match s.settings.pumps[p].overheat with
  | .trip => s.fault p .overheat
  | .rundown => (s.note p .overheat).toRundown p

/-- The pump enters LIFTING (R130); HOT already true is taken as in that state (R136). -/
def State.toLifting (s : State) (p : PumpId) : State :=
  let t := s.moveTo p .lifting
  if t.pins.hot[p] then t.hotWhileRunning p else t

/-- The pump has entered STARTING: HOT already true is taken first (R136), RUNNING already true takes it to LIFTING
(R129). -/
def State.afterStarting (s : State) (p : PumpId) : State :=
  if s.pins.hot[p] then s.hotWhileRunning p
  else if s.pins.running[p] then s.toLifting p
  else s

/-- The pump enters PRIMED (R128), or FAULT with HOT already true (R136). -/
def State.toPrimed (s : State) (p : PumpId) : State :=
  let t := s.moveTo p .primed
  if t.pins.hot[p] then t.fault p .overheat else t

/-- The pump enters PRIMING; HOT already true is taken first (R136), PRIMED already true takes it to PRIMED at once
(R127). -/
def State.toPriming (s : State) (p : PumpId) : State :=
  let t := s.moveTo p .priming
  if t.pins.hot[p] then t.fault p .overheat
  else if t.pins.primed[p] then t.toPrimed p
  else t

/-! ## Requests of the Roster (Table 6-2) -/

/-- Call to prime: carried out in IDLE while FEEDER OK is true (R122, R127). -/
def State.callPump (s : State) (p : PumpId) : State :=
  if s.pumps[p].state = .idle ∧ s.pins.feederOk = true then s.toPriming p else s

/-- Withdraw call: carried out in PRIMING. -/
def State.withdrawCall (s : State) (p : PumpId) : State :=
  if s.pumps[p].state = .priming then s.toIdle p else s

/-- Stop: carried out in STARTING and LIFTING. -/
def State.stopPump (s : State) (p : PumpId) : State :=
  if s.pumps[p].state.counts then s.toRundown p else s

/-! ## Self-check, overheat and supply -/

/-- A self-check ends with READY true (R126): IDLE with a valid curve, FAULT with START otherwise. -/
def State.endSelfCheck (s : State) (p : PumpId) : State :=
  if curveValid s.settings.pumps[p].curve then s.toIdle p else s.fault p .start

/-- The self-check of a pump may end: OFFLINE, the station CHECKING, FEEDER OK true, READY true (R126). -/
def State.tryEndSelfCheck (s : State) (p : PumpId) : State :=
  if s.pumps[p].state = .offline ∧ s.loader.station = .checking ∧ s.pins.feederOk = true ∧ s.pins.ready[p] = true then
    s.endSelfCheck p
  else s

/-- The self-check starts at entry to CHECKING (R126): the timer with the self-check limit, paused while FEEDER OK is
false; a READY that is true ends it at once. -/
def State.startSelfCheck (s : State) (p : PumpId) : State :=
  (s.setPump p
    { s.pumps[p] with
      timer := if s.pins.feederOk then .running s.settings.selfCheck else .paused s.settings.selfCheck }).tryEndSelfCheck p

/-- HOT becomes true, by the pump's state (R135). -/
def State.takeHot (s : State) (p : PumpId) : State :=
  match s.pumps[p].state with
  | .offline | .held => s
  | .idle | .priming | .primed => s.fault p .overheat
  | .starting | .lifting => s.hotWhileRunning p
  | .rundown | .fault => s.note p .overheat

/-- FEEDER OK becomes false, by the pump's state (R137). -/
def State.loseSupply (s : State) (p : PumpId) : State :=
  let q := s.pumps[p]
  match q.state with
  | .offline =>
    match q.timer with
    | .running n => s.setPump p { q with timer := .paused n }
    | .stopped | .paused _ => s
  | .idle | .held => s
  | .primed => s.toIdle p
  | .priming | .starting | .lifting | .rundown => s.fault p .supply
  | .fault =>
    match q.primary with
    | some .supply | none => s
    | some k => (s.setPump p { q with primary := some .supply, noted := k :: q.noted }).raisePumpFault

/-- FEEDER OK becomes true (R138): SUPPLY leaves the record, a paused self-check resumes. -/
def State.regainSupply (s : State) (p : PumpId) : State :=
  let q := s.pumps[p]
  match q.state with
  | .offline =>
    match q.timer with
    | .paused n =>
      if s.loader.station = .checking then (s.setPump p { q with timer := .running n }).tryEndSelfCheck p else s
    | .stopped | .running _ => s
  | .fault =>
    if q.primary = some .supply ∨ FaultKind.supply ∈ q.noted then s.clearKinds p fun k => k == .supply else s
  | .idle | .priming | .primed | .starting | .lifting | .rundown | .held => s

/-! ## Notices -/

/-- The kinds a CLEAR removes (R140), by the pump's HOT and RUNNING inputs. -/
def clearable (hot running : Bool) : FaultKind → Bool
  | .start | .supply => false
  | .overheat => !hot
  | .run | .prime => true
  | .stop => !running

/-- The kinds in a pump's record, the primary kind first (R132). -/
def Pump.kinds (q : Pump) : List FaultKind := q.primary.toList ++ q.noted

end Sys2Proof.Machine
end

