-- ==== Sys2Proof/Machine/Arbiter.lean ====
section
/-! DEFINITION. The Bay Arbiters' shared operations: arbitration, grant start, handover, close, and what a change of
serviceability brings (chapter 5). -/

namespace Sys2Proof.Machine

open Sys2Proof

/-! ## Arbitration (R87) -/

/-- A district with a candidate portion for the bay. -/
structure Contender where
  district : DistrictId
  portion : Portion
  credit : Int
  deriving DecidableEq, Repr

/-- The districts in the order in which ties fall: from the first after the rotation pointer. -/
def afterPointer (p : DistrictId) : List DistrictId := [p + 1, p + 2, p + 3, p]

/-- The contenders for a bay, in the order of `afterPointer`. -/
def State.contenders (s : State) (b : BayId) : List Contender :=
  (afterPointer s.arbiters.bays[b].pointer).filterMap fun d =>
    (s.candidate d b).map fun p => { district := d, portion := p, credit := s.accounts.districts[d].credit }

/-- Only URGENT contenders take part when there is one. -/
def takePart (xs : List Contender) : List Contender :=
  if xs.any fun x => x.portion.cls == .urgent then xs.filter fun x => x.portion.cls == .urgent else xs

/-- The first contender of greatest credit. -/
def bestOf : List Contender → Option Contender
  | [] => none
  | x :: rest =>
    match bestOf rest with
    | none => some x
    | some y => if x.credit < y.credit then some y else some x

/-- The winner of an arbitration of a bay that stands as given (R87): none while the station is not RUNNING or is exhausted,
for a FREE bay that is not serviceable, and for a GRANTED bay that is out of service. -/
def State.winnerAt (s : State) (b : BayId) (v : Service) : Option Contender :=
  if ¬s.isRunning ∨ s.accounts.exhausted = true
      ∨ (if (s.grantOf b).isSome then v = .outOfService else v ≠ .serviceable) then none
  else bestOf (takePart (s.contenders b))

/-- The winner of an arbitration of a bay as it stands (R87). -/
def State.winner (s : State) (b : BayId) : Option Contender := s.winnerAt b (s.service b)

/-! ## Grant numbers (R84) -/

/-- The numbers of the standing grants. -/
def State.grantNumbers (s : State) : List Nat := allBays.filterMap fun b => (s.grantOf b).map Grant.number

/-- Renumber the standing grants as 1, 2 and upward in the order of their numbers, and set the counter after them. -/
def State.renumberGrants (s : State) : State :=
  let numbers := s.grantNumbers
  s.withArbiters
    { bays := Vector.ofFn fun b : Fin 3 =>
        { s.arbiters.bays[b] with
          grant := (s.grantOf b).map fun g => { g with number := numbers.countP fun n => decide (n ≤ g.number) } },
      counter := numbers.length + 1 }

/-- A grant record is created with the counter's value, and the counter rises (R84, R88, R90); the rotation pointer names
the winner. -/
def State.installGrant (s : State) (b : BayId) (w : Contender) : State :=
  let t := s.setBay b
    { grant := some
        { district := w.district, tag := w.portion.tag, number := s.arbiters.counter, volume := 0, lifting := false },
      pointer := w.district }
  if s.arbiters.counter < Config.wordBound then
    t.withArbiters { t.arbiters with counter := s.arbiters.counter + 1 }
  else t.renumberGrants

/-! ## Grant start, handover, close -/

/-- A grant starts in a FREE bay (R88). -/
def State.startGrant (s : State) (b : BayId) (w : Contender) : State :=
  ((((s.installGrant b w).setPortion w.district w.portion.tag b .inService).openGates w.portion.intakes).reportTo
    w.district .grantStart)

/-- A FREE bay that stands as given arbitrates (R87, R88). -/
def State.arbitrateAt (s : State) (b : BayId) (v : Service) : State :=
  if (s.grantOf b).isSome then s
  else
    match s.winnerAt b v with
    | some w => s.startGrant b w
    | none => s

/-- A FREE bay arbitrates as it stands (R87, R88). -/
def State.arbitrateFree (s : State) (b : BayId) : State := s.arbitrateAt b (s.service b)

/-- The old district's port takes GRANT_END, unless the close is that of its port reset (R90, R91, R100). -/
def State.reportEnd (s : State) (d : DistrictId) (reset : Bool) : State :=
  if reset then s else s.reportTo d .grantEnd

/-- The bay passes from the old grant to the winner's portion (R90). `old` is the list of the old portion's intakes. -/
def State.handOver (s : State) (b : BayId) (g : Grant) (old : List IntakeId) (reset : Bool) (w : Contender) : State :=
  let new := w.portion.intakes
  let t := (s.installGrant b w).setPortion w.district w.portion.tag b .inService
  let u := (t.closeGates (old.filter fun i => i ∉ new)).openGates (new.filter fun i => i ∉ old)
  (u.reportEnd g.district reset).reportTo w.district .grantStart

/-- The grant closes without handover (R91): the record is discarded, the Roster stops the bay's running pumps and
withdraws its calls, the intakes are closed, GRANT_END is taken, and RUN and PRIME faults of the bay's pumps are tested
for clearing (R139). -/
def State.freeBay (s : State) (b : BayId) (g : Grant) (old : List IntakeId) (reset : Bool) : State :=
  let t := s.setGrant b none
  let u := t.each (pumpsOf b) fun x p => (x.stopPump p).withdrawCall p
  let v := (u.closeGates old).reportEnd g.district reset
  v.each (pumpsOf b) fun x p => x.selfClear p

/-- A close that allows a handover (R90, R91). The old portion has its new state already. -/
def State.closeGrant (s : State) (b : BayId) (g : Grant) (old : List IntakeId) (reset : Bool) : State :=
  match s.winner b with
  | some w => s.handOver b g old reset w
  | none => s.freeBay b g old reset

/-! ## The tests of a sample -/

/-- The portion's lifted volume is at or above its target × 1,000 L (R92). -/
def Portion.reached (p : Portion) : Bool := decide (p.target * 1000 ≤ p.lifted)

/-- The drained test (R93): the level valid and at or below the stop level, every named intake OPEN, the lifting mark
yes. -/
def State.drained (s : State) (b : BayId) (g : Grant) (p : Portion) : Bool :=
  (match s.bayLevel b with
    | some x => decide (x ≤ s.settings.bays[b].stopLevel)
    | none => false)
  && p.intakes.all (fun i => s.gates[i].state == .opened)
  && g.lifting

/-- The governing run cap is above 0 and the grant volume is at or above it (R92). -/
def State.capReached (s : State) (g : Grant) : Bool :=
  decide (0 < s.governing.runCap ∧ s.governing.runCap * 1000 ≤ g.volume)

/-- A grant is renewed (R94): the portion IN SERVICE again, the grant volume 0, the pointer at the winner. -/
def State.renew (s : State) (b : BayId) (g : Grant) (lifting : Bool) (w : Contender) : State :=
  (s.setBay b { grant := some { g with volume := 0, lifting := lifting }, pointer := w.district }).setPortion g.district
    g.tag b .inService

/-- The run cap is reached (R94). -/
def State.runCapReached (s : State) (b : BayId) (g : Grant) (p : Portion) (lifting : Bool) : State :=
  let t := s.setPortion g.district g.tag b .pending
  match t.winner b with
  | some w =>
    if w.district = g.district ∧ w.portion.tag = g.tag then t.renew b g lifting w
    else t.handOver b g p.intakes false w
  | none => t.freeBay b g p.intakes false

/-- The end of the portion in service that a sample, or a close that would return the portion, finds (tests 1 and 2 of R92,
end test of R96): COMPLETE, else DRAINED. `fresh` says that the drained test is applied; it is not where the arbiter has taken
the latest sample already (R96), nor at a sample after the first of head-blind (R101; notes/assumptions/25.md). -/
def State.endTest (s : State) (b : BayId) (fresh : Bool) : Option Ending :=
  (s.grantOf b).bind fun g =>
    (s.portion g.district g.tag b).bind fun p =>
      if p.reached then some { district := g.district, tag := g.tag, bay := b, outcome := .complete }
      else if fresh && s.drained b g p then some { district := g.district, tag := g.tag, bay := b, outcome := .drained }
      else none

/-- The arbiter acts on a sample (R92): it closes a grant whose portion is among those that the sample ended, else tests the
run cap, else sets the lifting mark. `was` is the state before those portions ended, which still holds their intakes, and
`lifting` says whether a pump of the bay was LIFTING as the Meter took the sample. -/
def State.testGrant (s was : State) (ended : List Ending) (b : BayId) (lifting : Bool) : State :=
  match s.grantOf b with
  | none => s
  | some g =>
    match was.portion g.district g.tag b with
    | none => s
    | some p =>
      if ended.any fun e => e.bay == b then s.closeGrant b g p.intakes false
      else if s.capReached g then s.runCapReached b g p lifting
      else s.setGrant b (some { g with lifting := lifting })

/-! ## Closes for exhaustion and loss of service -/

/-- The portion returns to PENDING at its place, unless it has ended (R96). -/
def State.returnPortion (s : State) (d : DistrictId) (tag : Byte) (b : BayId) : State :=
  s.mapPortions d (fun p => p.named tag b && !p.isEnded) fun p => { p with state := .pending }

/-- A grant closes without handover, its portion returned unless the end test has ended it (R97, R98). `was` is the state
before that test, which still holds the portion's intakes. -/
def State.closeReturning (s was : State) (b : BayId) : State :=
  match s.grantOf b with
  | none => s
  | some g =>
    (s.returnPortion g.district g.tag b).freeBay b g
      (match was.portion g.district g.tag b with
        | some p => p.intakes
        | none => [])
      false

/-! ## What the arbiters make of a change of serviceability (R85, R86) -/

/-- The arbiter of a bay takes a change of its serviceability while the station is RUNNING (R86): a bay out of service raises
BAY_UNSERVED and its grant closes (R98); a FREE bay become serviceable arbitrates (R87). `was` still holds the intakes of a
portion that has ended. -/
def State.takeService (s was : State) (b : BayId) (v : Service) : State :=
  if s.isRunning then
    match v with
    | .outOfService => (s.reportAll .bayUnserved).closeReturning was b
    | .serviceable => s.arbitrateAt b v
    | .neither => s
  else s

/-- The bays whose serviceability a reading has changed since `old` (R85), each as it now stands. -/
def State.servicesRead (s old : State) : List (BayId × Service) :=
  allBays.filterMap fun b => if s.service b = old.service b then none else some (b, s.service b)

/-- The reports that the pump controllers have made since `old`. -/
def State.reportsSince (s old : State) : List PumpReport := s.reports.drop old.reports.length

/-- The change of serviceability that a report of a pump brings, if any (R85, R124). -/
def PumpReport.change (r : PumpReport) : Option (BayId × Service) :=
  if r.after = r.before then none else some (bayOf r.pump, r.after)

/-- The arbiters take changes of serviceability, one after another. -/
def State.takeServices (s was : State) (xs : List (BayId × Service)) : State :=
  s.each xs fun t x => t.takeService was x.1 x.2

/-- The arbiters take the reports of the pump controllers (R124) from the one at place `n` on, and then, as often as `rounds`
says, those that their own closes have brought in the meantime. -/
def State.takeReports (was : State) : Nat → Nat → State → State
  | 0, _, s => s
  | rounds + 1, n, s =>
    State.takeReports was rounds s.reports.length (s.takeServices was ((s.reports.drop n).filterMap PumpReport.change))

/-- The bays that have gone out of service since `old`, if only in passing, while the station is RUNNING (R86). -/
def State.lostBays (s old : State) : List BayId :=
  allBays.filter fun b =>
    decide s.isRunning && (s.reportsSince old).any fun r => r.change == some (b, .outOfService)

/-- The arbiters take the reports since `old` (R86, R98, R124), after the end test of R96 for the grants that they close. A
close clears faults and so brings reports of its own (R139), and these may close a grant that began on the first ones; a fault
that then stands is OVERHEAT, which no close clears, so that a third round has nothing to take. -/
def State.judgeReports (s old : State) : State :=
  State.takeReports s 3 old.reports.length (s.endPortions ((s.lostBays old).filterMap fun b => s.endTest b false))

/-- Every FREE bay arbitrates. -/
def State.arbitrateAll (s : State) : State := s.each allBays fun t b => t.arbitrateFree b

/-- A phase boundary into phase `n` (R13): the bank examined and the cycle counted at phase 0, the phase entered, the
replenish, the arbitration of FREE bays, and PHASE_CHANGE. -/
def State.boundary (s : State) (n : Nat) : State :=
  let t := if n = 0 then s.examineBank else s
  ((((t.enterPhase n).replenish).arbitrateAll).reportAll .phaseChange)

end Sys2Proof.Machine
end

