-- ==== Sys2Proof/Machine/Roster.lean ====
section
/-! DEFINITION. The Pump Roster: calls to prime, start candidates and their order, admission, the start request, stops and the
shed (chapter 6); and `State.settle`, what the blocks make of the changes of one command before it ends. -/

namespace Sys2Proof.Machine

open Sys2Proof

/-! ## Levels and sums -/

/-- The bay level is valid and at or above the working start level (R106). -/
def State.aboveStart (s : State) (b : BayId) : Bool :=
  match s.bayLevel b with
  | some x => decide (s.settings.bays[b].workingStart ≤ x)
  | none => false

/-- The bay level is valid and at or below the stop level (R117). -/
def State.belowStop (s : State) (b : BayId) : Bool :=
  match s.bayLevel b with
  | some x => decide (x ≤ s.settings.bays[b].stopLevel)
  | none => false

/-- The pumps STARTING or LIFTING. -/
def State.countingPumps (s : State) : List PumpId := allPumps.filter fun p => s.pumps[p].state.counts

/-- The summed flow of some pumps, an absent flow counted as 0 L/s (R44). -/
def State.flowSum (s : State) (ps : List PumpId) : Nat := (ps.map fun p => (s.meter.flows[p]).getD 0).sum

/-! ## Calling pumps to prime (R107) -/

/-- The Roster may call a pump: the station RUNNING, its bay GRANTED, its level at or above the start level. -/
abbrev State.mayCall (s : State) (p : PumpId) : Prop :=
  s.isRunning ∧ (s.grantOf (bayOf p)).isSome = true ∧ s.aboveStart (bayOf p) = true

/-- The Roster calls a pump, which carries the call out in IDLE. -/
def State.rosterCall (s : State) (p : PumpId) : State :=
  if s.mayCall p then s.callPump p else s

/-! ## Start candidates, order, admission (R109 to R111) -/

/-- A start candidate (R109). -/
def State.isCandidate (s : State) (p : PumpId) : Bool :=
  decide s.isRunning && s.pumps[p].state == .primed && (s.grantOf (bayOf p)).isSome && s.aboveStart (bayOf p)
    && (s.gauges.heads[bayOf p]).isSome && decide (0 < (s.meter.flows[p]).getD 0)
    && !s.gauges.headBlind && !s.accounts.exhausted

/-- The grant number of a pump's bay (0 when FREE; no candidate's bay is). -/
def State.grantNumber (s : State) (p : PumpId) : Nat := ((s.grantOf (bayOf p)).map Grant.number).getD 0

/-- Candidate `p` comes before candidate `q` (R110): grant number, run seconds, pump number. -/
def State.startsBefore (s : State) (p q : PumpId) : Bool :=
  let np := s.grantNumber p
  let nq := s.grantNumber q
  decide (np < nq) || (np == nq &&
    (decide (s.meter.runSeconds[p] < s.meter.runSeconds[q]) ||
      (s.meter.runSeconds[p] == s.meter.runSeconds[q] && decide (p < q))))

/-- A candidate fits the feeder limit and the ceiling (R111). -/
def State.fits (s : State) (p : PumpId) : Bool :=
  decide (s.countingPumps.length < s.settings.feeder)
    && decide (s.flowSum s.countingPumps + (s.meter.flows[p]).getD 0 ≤ s.governing.ceiling)

/-- The pump of a list that starts before all others of it. -/
def State.firstOf (s : State) : List PumpId → Option PumpId
  | [] => none
  | p :: rest =>
    match s.firstOf rest with
    | none => some p
    | some q => if s.startsBefore p q then some p else some q

/-- The pump a consideration starts: the first in the order of R110 of the candidates that fit (R111). `stopped` are the
pumps asked to stop at this sample, which do not start again at it (R116). -/
def State.pickStart (s : State) (stopped : List PumpId) : Option PumpId :=
  s.firstOf (allPumps.filter fun p => s.isCandidate p && s.fits p && !stopped.contains p)

/-! ## The start request (R112 to R114) -/

/-- Renumber the pumps that hold a start sequence number as 1, 2 and upward, and set the counter after them (R114). -/
def Roster.renumber (r : Roster) : Roster :=
  let held := r.numbers.toList.filterMap id
  { r with
    numbers := Vector.ofFn fun p : Fin 6 => (r.numbers[p]).map fun n => held.countP fun m => decide (m ≤ n),
    counter := held.length + 1 }

/-- A pump takes the next start sequence number (R114) and the stagger timer restarts (R112). -/
def State.giveNumber (s : State) (p : PumpId) : State :=
  let r := { s.roster with numbers := s.roster.numbers.set p (some s.roster.counter), stagger := some s.settings.stagger }
  s.withRoster (if s.roster.counter < Config.wordBound then { r with counter := s.roster.counter + 1 } else r.renumber)

/-- The outstanding start is recorded or cleared (R113). -/
def State.setOutstanding (s : State) (x : Option PumpId) : State := s.withRoster { s.roster with outstanding := x }

/-- The controller takes a start request (R113, R129): STARTED in PRIMED with the bay GRANTED, NOT_TAKEN otherwise. On
STARTED the number is given and the stagger timer restarted before the pump acts on the inputs it finds. -/
def State.requestStart (s : State) (p : PumpId) : State :=
  let t := s.setOutstanding (some p)
  if t.pumps[p].state = .primed ∧ (t.grantOf (bayOf p)).isSome = true then
    (((t.moveTo p .starting).giveNumber p).setOutstanding none).afterStarting p
  else t.setOutstanding none

/-- The Roster considers a start (R111, R112, R115). -/
def State.considerStart (s : State) (stopped : List PumpId) : State :=
  if s.roster.stagger = none ∧ s.roster.outstanding = none then
    match s.pickStart stopped with
    | some p => s.requestStart p
    | none => s
  else s

/-! ## Stops and the shed at a sample (R116 to R120) -/

/-- The pumps step 1 of R116 asks to stop: stop level (R117), head-out or absent flow (R118), head-blind (R119). -/
def State.sampleStops (s : State) : List PumpId :=
  s.countingPumps.filter fun p =>
    s.belowStop (bayOf p) || (s.meter.flows[p]).getD 0 == 0 || s.gauges.headBlind

/-- The pump of a list with the highest start sequence number (R120). -/
def State.latestOf (s : State) : List PumpId → Option PumpId
  | [] => none
  | p :: rest =>
    match s.latestOf rest with
    | none => some p
    | some q => if (s.roster.numbers[q]).getD 0 < (s.roster.numbers[p]).getD 0 then some p else some q

/-- The pump step 2 of R116 sheds (R120): the latest started of the pumps still running, when their sum exceeds the
ceiling plus the margin. -/
def State.shedPump (s : State) (running : List PumpId) : List PumpId :=
  if s.governing.ceiling + s.settings.shedMargin < s.flowSum running then (s.latestOf running).toList else []

/-- All the pumps the Roster asks to stop at a sample (steps 1 and 2 of R116). -/
def State.rosterStops (s : State) : List PumpId :=
  let first := s.sampleStops
  first ++ s.shedPump (s.countingPumps.filter fun p => !first.contains p)

/-! ## What follows from the changes of one command -/

/-- The grant of a bay is one that started, or took the bay by handover, after `old` (R107, R115). -/
def State.grantIsNew (s old : State) (b : BayId) : Bool :=
  match s.grantOf b with
  | none => false
  | some g =>
    match old.grantOf b with
    | none => true
    | some h => g.district != h.district || g.tag != h.tag || decide (old.arbiters.counter ≤ g.number)

/-- A pump of a GRANTED bay has entered IDLE since `old` (R107, R124). -/
def State.idleEntered (s old : State) : Bool :=
  (s.reportsSince old).any fun r => r.entered == .idle && (s.grantOf (bayOf r.pump)).isSome

/-- The calls that follow from the changes since `old` (R107): to every pump at a sample and when a pump of a GRANTED bay has
entered IDLE, and to the pumps of a bay whose grant is new. -/
def State.callPumps (s old : State) (all : Bool) : State :=
  let picked := allPumps.filter fun p => all || s.idleEntered old || s.grantIsNew old (bayOf p)
  s.each picked fun t p => t.rosterCall p

/-- The report is a trigger of the Roster (R115, R124): a pump reached PRIMED, or left STARTING and LIFTING. -/
def PumpReport.triggers (r : PumpReport) : Bool := r.entered == .primed || (r.left.counts && !r.entered.counts)

/-- The ceiling of the governing entry differs from the held one (R20, R115). -/
abbrev State.ceilingChanged (s : State) : Prop := s.isRunning ∧ s.governing.ceiling ≠ s.roster.heldCeiling

/-- The Roster holds the ceiling of the governing entry (R115). -/
def State.holdCeiling (s : State) : State :=
  if s.isRunning then s.withRoster { s.roster with heldCeiling := s.governing.ceiling } else s

/-- What a command asks of `settle` beside what follows from its changes. -/
structure Settling where
  /-- Call every pump (R116, step 3). -/
  callAll : Bool := false
  /-- Consider a start whatever changed (R115: stagger expiry, sample, end of head-blind or of exhaustion). -/
  consider : Bool := false
  /-- The pumps asked to stop at this sample. -/
  stopped : List PumpId := []
  deriving DecidableEq, Repr

/-- The event that brings the station to RUNNING raises what has gathered (R12, R32, R36, R133, R155, R173, R179). -/
def State.enterRunning (s : State) : State :=
  let a := (s.setStation .running).boundary 0
  let b := if [(0 : GaugeId), 1, 2, 3].any fun g => a.gauges.records[g].condition == .failed then
      a.raiseStation .gaugeFailed else a
  let c := if b.gauges.headBlind then b.raiseHeadBlind else b
  let d := if allPumps.any fun p => c.pumps[p].state == .fault then c.raisePumpFault else c
  let jammed := allIntakes.filter fun i => d.gates[i].state == .jammed
  let e := if jammed.isEmpty then d else d.raiseStation .gateJammed
  let f := e.each allDistricts fun t x =>
    if jammed.any fun i => t.settings.owns i x then t.reportTo x .gateJammed else t
  let g := if allBays.any fun x => decide (f.service x = .outOfService) then f.reportAll .bayUnserved else f
  g.each allDistricts fun t x =>
    if t.settings.districts[x].enabled = true ∧ 0 < t.ports[x].interval then
      t.setPort x { t.ports[x] with timer := some t.ports[x].interval }
    else t

/-- The station leaves CHECKING for RUNNING when no pump is OFFLINE and a sample of CHECKING has been announced (R126,
R179). -/
def State.leaveChecking (s : State) : State :=
  if s.loader.station = .checking ∧ s.loader.sampled = true ∧ (allPumps.all fun p => s.pumps[p].state != .offline) = true
  then s.enterRunning
  else s

/-- The Roster takes the changes since `old` (R115, R107): a ceiling change, the calls, and one consideration of a start. The
arbiters take what the pumps report of that (R124), and no report is left. -/
def State.settleRoster (s old : State) (x : Settling) : State :=
  let changed := decide s.ceilingChanged
  let t := s.holdCeiling.callPumps old x.callAll
  let u :=
    if x.consider || changed || (t.reportsSince old).any PumpReport.triggers || allBays.any fun y => t.grantIsNew old y
    then t.considerStart x.stopped
    else t
  (State.takeReports u 3 s.reports.length u).withReports []

/-- What the blocks make of the changes of a command since `old`: first the arbiters take the pump controllers' reports, in the
order in which they came (R85, R86, R98, R124), then the Settings Loader takes the station to RUNNING (R179), then the Roster
acts. The order is the model's, where the rules leave it open (notes/assumptions/9.md and 26.md). -/
def State.settle (s old : State) (x : Settling) : State := (s.judgeReports old).leaveChecking.settleRoster old x

end Sys2Proof.Machine
end

