-- ==== Sys2Proof/Machine/Reports.lean ====
section
/-! DEFINITION. What goes out: the STATUS REPORT and the station report, the start and end of a transmission, and the taking of
good frames and notices up to the point where a block acts on them (chapters 9 and 10). -/

namespace Sys2Proof.Machine

open Sys2Proof

/-! ## Report bodies -/

/-- The district that holds a bay. -/
def State.holder (s : State) (b : BayId) : Option DistrictId := (s.grantOf b).map Grant.district

/-- The staged plan fields: present, and the number, 0 when absent (Tables 9-4 and 10-3). -/
def State.stagedField (s : State) : List Byte :=
  match s.stagedPlan with
  | some p => 1 :: fieldBE 2 p.number
  | none => 0 :: fieldBE 2 0

/-- The body of a STATUS REPORT of district `d`, composed from the state then held (Table 9-4, R172). -/
def State.statusReport (s : State) (d : DistrictId) : List Byte :=
  fieldBE 2 (s.ports[d].flags &&& maskBits).toNat
    ++ [s.loader.station.code, byteOf s.sequencer.phase, pinByte s.sequencer.pin]
    ++ fieldBE 2 s.activePlan.number ++ s.stagedField
    ++ fieldSigned 4 s.accounts.districts[d].credit ++ fieldBE 4 s.accounts.districts[d].liftedPhase
    ++ allBays.flatMap (fun b => holderByte (s.holder b) :: levelField (s.bayLevel b))
    ++ levelField s.gauges.river ++ [s.gauges.source.code]
    ++ allPumps.flatMap (fun p => [s.pumps[p].state.code, primaryCode s.pumps[p].primary])
    ++ [flagByte s.gauges.headBlind]

/-- Section 0 of the station report, after its number (Table 10-3), with the station flags given. -/
def State.stationSection (s : State) : List Byte :=
  [BitVec.ofNat 8 s.river.flags.toNat, imageSourceCode s.loader.source]
    ++ fieldBE 2 s.activePlan.number ++ s.stagedField
    ++ [byteOf s.sequencer.phase, pinByte s.sequencer.pin] ++ fieldBE 2 s.sequencer.cycle.toNat
    ++ fieldBE 4 s.accounts.station ++ [flagByte s.accounts.exhausted, flagByte s.gauges.headBlind]
    ++ levelField s.gauges.river ++ [s.gauges.source.code]
    ++ [(0 : GaugeId), 1, 2, 3].map (fun g => s.gauges.records[g].condition.code)
    ++ allBays.flatMap (fun b =>
      (match s.grantOf b with
        | some g => [1, holderByte (some g.district), g.tag] ++ fieldBE 4 g.number
        | none => [0, holderByte none, 0] ++ fieldBE 4 0)
      ++ [flagByte (decide (s.service b = .serviceable))])

/-- Section 1 of the station report, after its number (Table 10-3). -/
def State.accountsSection (s : State) : List Byte :=
  allDistricts.flatMap fun d =>
    fieldSigned 4 s.accounts.districts[d].credit ++ fieldBE 4 s.accounts.districts[d].liftedPhase
      ++ fieldBE 6 s.accounts.districts[d].liftedReset

/-- Section 2 of the station report, after its number (Table 10-3). -/
def State.pumpsSection (s : State) : List Byte :=
  allPumps.flatMap fun p =>
    let q := s.pumps[p]
    [q.state.code, primaryCode q.primary, byteOf q.noted.length]
      ++ (q.noted.map FaultKind.code ++ List.replicate 5 (0 : Byte)).take 5
      ++ [flagByte q.hold] ++ fieldBE 4 s.meter.runSeconds[p]

/-- The three sections of the station report, each beginning with its number (R175). -/
def State.stationReport (s : State) : List (List Byte) :=
  [0 :: s.stationSection, 1 :: s.accountsSection, 2 :: s.pumpsSection]

/-- The notices of a held answer (R168, R175): destination ALL with value 0, station address, kind answered, outcome, and
for a POLL one notice for each section. -/
def Answer.notices (a : Answer) (address : Nat) : List (List Byte) :=
  let head := [2, 0, byteOf address, a.kind, a.outcome.code]
  match a.sections with
  | [] => [envelope kindStationReply head]
  | xs => xs.map fun x => envelope kindStationReply (head ++ x)

/-! ## District transmissions (R164) -/

/-- A receiver is in HEADER or BODY. -/
def RxState.busy : RxState → Bool
  | .hunt => false
  | .header | .body _ _ => true

/-- The pair a frame goes out on (R160, R163). -/
def Port.pairFor (q : Port) : TxEntry → Pair
  | .reply r => r.pair
  | .orderDone _ => q.lastGood
  | .report m => m.getD q.lastGood

/-- The bytes of a frame, composed as its sending begins (R164, R172). -/
def State.frameBytes (s : State) (d : DistrictId) : TxEntry → List Byte
  | .reply r => envelope kindReply r.body
  | .orderDone f => envelope kindOrderDone f.body
  | .report _ => envelope kindReport (s.statusReport d)

/-- The port begins to send the head of its queue (R164); a STATUS REPORT takes the pending flags with it (R172). Both
receivers are off while it sends (R157, R160). -/
def State.beginSending (s : State) (d : DistrictId) (e : TxEntry) : State :=
  let q := s.ports[d]
  s.setPort d
    { q with
      sending := some { pair := q.pairFor e, bytes := s.frameBytes d e }, rxA := .hunt, rxB := .hunt,
      flags := if e.isReport then q.flags &&& ~~~maskBits else q.flags }

/-- The last CRC byte has been sent (R163, R164, R171, R172): the entry leaves the queue, and a report owed joins at the
tail. -/
def Port.endSending (q : Port) : Port :=
  if q.owes then
    { q with
      queue := q.queue.drop 1 ++ [.report q.owedPair], sending := none, owes := false, owedPair := none }
  else { q with queue := q.queue.drop 1, sending := none }

/-! ## Taking good frames (R157, R158, R160, R161) -/

/-- Set a receiver's state. -/
def State.setRx (s : State) (rx : Receiver) (x : RxState) : State :=
  match rx with
  | .district d .a => s.setPort d { s.ports[d] with rxA := x }
  | .district d .b => s.setPort d { s.ports[d] with rxB := x }
  | .river => s.withRiver { s.river with rx := x }

/-- A receiver's state. -/
def State.rxOf (s : State) : Receiver → RxState
  | .district d .a => s.ports[d].rxA
  | .district d .b => s.ports[d].rxB
  | .river => s.river.rx

/-- The port of the receiver transmits, so the receiver is off (R157, R164, R168). -/
def State.rxOff (s : State) : Receiver → Bool
  | .district d _ => s.ports[d].sending.isSome
  | .river => s.river.sending.isSome

/-- A good frame has come whole: its receiver is back in HUNT and the last-good pair moves to its pair (R157, R160). -/
def State.goodFrame (s : State) (d : DistrictId) (pair : Pair) : State :=
  let t := s.setRx (.district d pair) .hunt
  t.setPort d { t.ports[d] with lastGood := pair }

/-- A REPLY to a frame: on the pair the frame arrived on (R160, R161). -/
def State.answerFrame (s : State) (d : DistrictId) (pair : Pair) (kind tag : Byte) (o : ReplyOutcome)
    (xs : List IntakeStatus) : State :=
  s.queueReply d { pair := pair, kind := kind, tag := tag, outcome := o, statuses := xs }

/-- The answer to a QUERY or other frame of this body length and district would be a REPLY (R161, check 1). -/
def State.answeredByReply (s : State) (d : DistrictId) (query : Bool) (length : Nat) : Bool :=
  !query || length != 0 || !s.settings.districts[d].enabled
    || decide (s.loader.station = .checking) || decide (s.loader.station = .halted)

/-- A District Port takes a good frame (R161): discarded when its answer would be a fourth reply, answered STARTING or
HALTED before RUNNING, and otherwise given to `act`. Nothing is received in LOADING (R156), a frame that comes on either pair
while the port itself transmits is lost (R157, R160), and a body above 91 bytes is over-length and discarded in the header
(R157). A frame whose last byte had come before the transmission began is taken during it (R163, R164, R172;
notes/assumptions/10.md). `query` says that the frame is a QUERY. -/
def State.takeFrame (s : State) (d : DistrictId) (frame : Inbound) (kind : Byte) (query : Bool)
    (body : List Byte) (act : State → State) : State :=
  if s.loader.station = .loading ∨ (s.ports[d].sending.isSome = true ∧ frame.arrival = .now) then s
  else if Config.maxBody < body.length then s.setRx (.district d frame.pair) .hunt
  else
    let t := s.goodFrame d frame.pair
    if t.answeredByReply d query body.length = true ∧ Config.maxReplies ≤ t.ports[d].replyCount then t
    else
      match t.loader.station with
      | .loading => t
      | .checking => t.answerFrame d frame.pair kind (replyTag kind body) .starting []
      | .halted => t.answerFrame d frame.pair kind (replyTag kind body) .halted []
      | .running => act t

/-- A QUERY, SET REPORT or PORT RESET (R161): MALFORMED when its body does not have the length its kind needs,
PORT_DISABLED on the port of a district that is not enabled, and otherwise given to `act`. -/
def State.ownFrame (s : State) (d : DistrictId) (pair : Pair) (kind : Byte) (need : Nat) (body : List Byte)
    (act : State → State) : State :=
  if body.length ≠ need then s.answerFrame d pair kind 0 .malformed []
  else if s.settings.districts[d].enabled = false then s.answerFrame d pair kind 0 .portDisabled []
  else act s

/-! ## Taking good notices (R166 to R168) -/

/-- The River Port holds an answer (R168). -/
def State.holdAnswer (s : State) (a : Answer) : State := s.withRiver { s.river with answer := some a }

/-- The held answer is discarded unsent (R168). -/
def State.dropAnswer (s : State) : State := s.withRiver { s.river with answer := none }

/-- How a kind of notice is taken (Table 9-8): the length its body needs after the destination (none for a PLAN, judged by
R4), and whether it is acted on from a STATION destination only. -/
structure NoticeForm where
  kind : Byte
  need : Option Nat
  stationOnly : Bool
  deriving DecidableEq, Repr

/-- What acting on a notice comes to: the state, the outcome of its answer, and the sections a POLL's answer carries. -/
structure Acted where
  state : State
  outcome : NoticeOutcome
  sections : List (List Byte) := []
  deriving DecidableEq, Repr

/-- An accepted notice while the station is RUNNING (R167): malformed, not for this station alone, or acted on. An answer
is held only for a STATION destination. -/
def State.actOnNotice (s : State) (f : NoticeForm) (dest : Destination) (rest : List Byte)
    (act : State → List Byte → Acted) : State :=
  if f.need.any (fun n => n != rest.length) = true then
    if dest = .station then s.holdAnswer { kind := f.kind, outcome := .rejected, sections := [] } else s
  else if f.stationOnly = true ∧ dest ≠ .station then s
  else
    let r := act s rest
    if dest = .station then r.state.holdAnswer { kind := f.kind, outcome := r.outcome, sections := r.sections }
    else r.state

/-- A good notice has come whole (R157, R168): the receiver is back in HUNT and an answer still held is discarded. -/
def State.goodNotice (s : State) : State :=
  s.withRiver { s.river with rx := .hunt, answer := none }

/-- The River Port takes a good notice (R156, R157, R166, R168): lost in LOADING and while the port sends, over-length
discarded, dropped outside RUNNING, dropped by the filter, and otherwise given to `act` with its destination and the body
after it. -/
def State.takeNotice (s : State) (body : List Byte) (act : State → Destination → List Byte → State) : State :=
  if s.loader.station = .loading ∨ s.river.sending.isSome = true then s
  else if Config.maxBody < body.length then s.setRx .river .hunt
  else
    let t := s.goodNotice
    if t.isRunning then
      match t.settings.accepts body with
      | some dest => act t dest (body.drop 2)
      | none => t
    else t

end Sys2Proof.Machine
end

