-- ==== Sys2Proof/Machine/GateLines.lean ====
section
/-! DEFINITION. The gates' limit switches (R149) and their travel limit (R150). -/

namespace Sys2Proof.Machine

open Sys2Proof

/-- Set the AT OPEN input. -/
def State.setAtOpen (s : State) (i : IntakeId) (x : Bool) : State :=
  s.withPins { s.pins with atOpen := s.pins.atOpen.set i x }

/-- Set the AT SHUT input. -/
def State.setAtShut (s : State) (i : IntakeId) (x : Bool) : State :=
  s.withPins { s.pins with atShut := s.pins.atShut.set i x }

/-- AT_OPEN_TRUE (R149): an OPENING gate becomes OPEN. Also while the reset pin is held
(DESIGN CHOICE, notes/assumptions/28.md). -/
def execAtOpenTrue (i : IntakeId) (s : State) : Host.Outcome State Fault Refusal :=
  let t := s.setAtOpen i true
  .next (if s.gates[i].state = .opening then t.setGate i { state := .opened, timer := none } else t)

/-- AT_OPEN_FALSE (R149): an OPEN gate is driven back to OPENING. Also while the reset pin is held
(DESIGN CHOICE, notes/assumptions/28.md). -/
def execAtOpenFalse (i : IntakeId) (s : State) : Host.Outcome State Fault Refusal :=
  let t := s.setAtOpen i false
  .next (if s.gates[i].state = .opened then t.startOpening i else t)

/-- AT_SHUT_TRUE (R149): a CLOSING gate becomes SHUT. Also while the reset pin is held
(DESIGN CHOICE, notes/assumptions/28.md). -/
def execAtShutTrue (i : IntakeId) (s : State) : Host.Outcome State Fault Refusal :=
  let t := s.setAtShut i true
  .next (if s.gates[i].state = .closing then t.setGate i { state := .shut, timer := none } else t)

/-- AT_SHUT_FALSE (R149): a SHUT gate is driven back to CLOSING. Also while the reset pin is held
(DESIGN CHOICE, notes/assumptions/28.md). -/
def execAtShutFalse (i : IntakeId) (s : State) : Host.Outcome State Fault Refusal :=
  let t := s.setAtShut i false
  .next (if s.gates[i].state = .shut then t.startClosing i else t)

/-! ## Jams -/

/-- A portion that ends GATE_FAULT when intake `i` becomes faulted (R79): PENDING or IN SERVICE, naming `i`, all its
intakes faulted. -/
def gateFaulted (faulted : Vector Bool 16) (i : IntakeId) (p : Portion) : Bool :=
  !p.isEnded && p.intakes.contains i && p.intakes.all fun j => faulted[j]

/-- A grant about to be closed: its bay, its record, the intakes of its portion. -/
structure Closing where
  bay : BayId
  grant : Grant
  intakes : List IntakeId
  deriving DecidableEq, Repr

/-- The grants whose portion a test picks, with their portions' intakes. -/
def State.grantsWith (s : State) (pick : DistrictId → Portion → Bool) : List Closing :=
  allBays.filterMap fun b =>
    (s.grantOf b).bind fun g =>
      (s.portion g.district g.tag b).bind fun p =>
        if pick g.district p then some { bay := b, grant := g, intakes := p.intakes } else none

/-- Close a list of grants, each by its arbiter, with handover allowed (R99, R100). -/
def State.closeGrants (s : State) (xs : List Closing) (reset : Bool) : State :=
  s.each xs fun t x => t.closeGrant x.bay x.grant x.intakes reset

/-- Test the orders of a district for their end, in the order in which they were accepted (R74). -/
def State.testOrders (s : State) (d : DistrictId) : State :=
  s.each s.orders.districts[d].table fun t o => t.testOrder d o

/-- The Order Unit's part of a jam (R62, R79): the faulted flag, the GATE_FAULT endings of every district, the ends of
their orders, then the closes of the grants. -/
def State.jamOrders (s : State) (i : IntakeId) : State :=
  let a := s.setFaulted i true
  let pick := gateFaulted a.orders.faulted i
  let closing := a.grantsWith fun _ p => pick p
  let b := a.each allDistricts fun t d => t.mapPortions d pick fun p => { p with state := .ended .gateFault }
  let c := b.each allDistricts fun t d => t.testOrders d
  c.closeGrants closing false

/-- A jam (R150): JAMMED with both drives off, then the three readers in order. -/
def State.jam (s : State) (i : IntakeId) : State :=
  let a := ((s.setGate i { state := .jammed, timer := none }).jamOrders i).raiseStation .gateJammed
  a.each allDistricts fun t d => if t.settings.owns i d then t.reportTo d .gateJammed else t

/-- TRAVEL_LIMIT_EXPIRY (R150): acts in OPENING and CLOSING while travel timers count, once the timer has reached 0 (R146). Where
a command taken first has reversed the gate, the timer has restarted and the expiry does not happen; elsewhere the timer is
stopped. -/
def execTravelLimitExpiry (i : IntakeId) (s : State) : Host.Outcome State Fault Refusal :=
  .next
    (if s.isLive ∧ (s.gates[i].state = .opening ∨ s.gates[i].state = .closing) ∧ s.gates[i].timer = some 0 then
      (s.jam i).settle s {}
    else s)

end Sys2Proof.Machine
end

