-- ==== Sys2Proof/Machine/Frames.lean ====
section
/-! DEFINITION. The district frames (Table 9-7), what a port sends (R164), the receivers (R157) and the always-report timer
(R173). A frame command is a good frame that the port takes. Its operand says whether its last CRC byte comes now or had come
before a transmission that the port has begun since (notes/assumptions/10.md). -/

namespace Sys2Proof.Machine

open Sys2Proof

/-! ## LIFT and WITHDRAW: the Order Unit -/

/-- The bays of the PENDING portions of an order that has just been entered, in the order of R67 (R69). -/
def pendingBays (ps : List Portion) : List BayId := (ps.filter fun p => p.state == .pending).map Portion.bay

/-- LIFT (R63 to R69): refused with a REPLY, or entered, answered, and told to the arbiters of its bays. -/
def State.actLift (s : State) (d : DistrictId) (pair : Pair) (body : List Byte) : State :=
  match s.judgeLift d body with
  | .refused o => s.answerFrame d pair kindLift (replyTag kindLift body) o []
  | .accepted o ps xs =>
    (((s.enterOrder d o ps).answerFrame d pair kindLift o.tag (acceptOutcome xs) xs).each (pendingBays ps)
      fun t b => t.arbitrateFree b).settle s {}

/-- LIFT. -/
def execLift (d : DistrictId) (frame : Inbound) (body : List Byte) (s : State) :
    Host.Outcome State Fault Refusal :=
  .next (s.takeFrame d frame kindLift false body fun t => t.actLift d frame.pair body)

/-- The order of a tag is OPEN (R70): in the table and not FINISHED. -/
def DistrictOrders.isOpen (x : DistrictOrders) (tag : Byte) : Bool :=
  x.table.any (fun o => o.tag == tag) && !x.isFinished tag

/-- A portion that a WITHDRAW of a tag ends: PENDING or IN SERVICE (R77). -/
def withdrawn (tag : Byte) (p : Portion) : Bool := p.tag == tag && !p.isEnded

/-- The portions end, the order reaches its end, then the arbiters close the grants (R77, R99). -/
def State.withdrawOrder (s : State) (d : DistrictId) (tag : Byte) : State :=
  let closing := s.grantsWith fun e p => e == d && withdrawn tag p
  let a := s.mapPortions d (withdrawn tag) fun p => { p with state := .ended .withdrawn }
  (a.testTag d tag).closeGrants closing false

/-- WITHDRAW (R77): refused, or answered ACCEPTED and carried out. -/
def State.actWithdraw (s : State) (d : DistrictId) (pair : Pair) (body : List Byte) : State :=
  let refuse := fun o => s.answerFrame d pair kindWithdraw (replyTag kindWithdraw body) o []
  if s.settings.districts[d].enabled = false then refuse .portDisabled
  else
    match body with
    | [tag] =>
      if s.orders.districts[d].isOpen tag then
        ((s.answerFrame d pair kindWithdraw tag .accepted []).withdrawOrder d tag).settle s {}
      else refuse .unknownTag
    | _ => refuse .malformed

/-- WITHDRAW. -/
def execWithdraw (d : DistrictId) (frame : Inbound) (body : List Byte) (s : State) :
    Host.Outcome State Fault Refusal :=
  .next (s.takeFrame d frame kindWithdraw false body fun t => t.actWithdraw d frame.pair body)

/-! ## QUERY, SET REPORT, PORT RESET: the port -/

/-- QUERY (R163, R172). -/
def execQuery (d : DistrictId) (frame : Inbound) (body : List Byte) (s : State) :
    Host.Outcome State Fault Refusal :=
  .next
    (s.takeFrame d frame kindQuery true body fun t =>
      t.ownFrame d frame.pair kindQuery 0 body fun u => u.setPort d (u.ports[d].askQuery frame.pair))

/-- The always-report timer at its full length, stopped when the interval is 0 (R162, R173). -/
def fullInterval (n : Nat) : Option Nat := if n = 0 then none else some n

/-- The port takes a mask and an interval, and its timer restarts (R162, R165). -/
def Port.setReport (q : Port) (mask : BitVec 16) (interval : Nat) : Port :=
  { q with mask := mask &&& maskBits, interval := interval, timer := fullInterval interval }

/-- SET REPORT (R162): an interval above 3,600 s is MALFORMED. -/
def State.actSetReport (s : State) (d : DistrictId) (pair : Pair) (body : List Byte) : State :=
  match readSetReport body with
  | some (mask, interval) =>
    if 3600 < interval then s.answerFrame d pair kindSetReport 0 .malformed []
    else (s.setPort d (s.ports[d].setReport mask interval)).answerFrame d pair kindSetReport 0 .accepted []
  | none => s.answerFrame d pair kindSetReport 0 .malformed []

/-- SET_REPORT. -/
def execSetReport (d : DistrictId) (frame : Inbound) (body : List Byte) (s : State) :
    Host.Outcome State Fault Refusal :=
  .next
    (s.takeFrame d frame kindSetReport false body fun t =>
      t.ownFrame d frame.pair kindSetReport 4 body fun u => u.actSetReport d frame.pair body)

/-- Step 1 of R165: every waiting entry leaves the queue; the one in transmission stays. -/
def Port.emptyWaiting (q : Port) : Port := { q with queue := q.inTransmission }

/-- Step 2 of R165 (R80, R100): the district's portions end CANCELLED, its grants close, its orders leave. -/
def State.cancelOrders (s : State) (d : DistrictId) : State :=
  let closing := s.grantsWith fun e _ => e == d
  let a := s.mapPortions d (fun p => !p.isEnded) fun p => { p with state := .ended .cancelled }
  (a.closeGrants closing true).setOrders d { table := [], queue := [], finished := [] }

/-- Step 3 of R165: mask and interval of the image, the timer restarted, the flags cleared, no report owed. -/
def Port.restore (q : Port) (x : DistrictSettings) : Port :=
  { q.setReport x.mask x.interval with flags := 0, owes := false, owedPair := none }

/-- PORT RESET (R165), its four steps in order. -/
def State.actPortReset (s : State) (d : DistrictId) (pair : Pair) : State :=
  let a := (s.setPort d s.ports[d].emptyWaiting).cancelOrders d
  let b := a.setPort d (a.ports[d].restore a.settings.districts[d])
  (b.answerFrame d pair kindPortReset 0 .accepted []).settle s {}

/-- PORT_RESET. -/
def execPortReset (d : DistrictId) (frame : Inbound) (body : List Byte) (s : State) :
    Host.Outcome State Fault Refusal :=
  .next
    (s.takeFrame d frame kindPortReset false body fun t =>
      t.ownFrame d frame.pair kindPortReset 0 body fun u => u.actPortReset d frame.pair)

/-- UNKNOWN_FRAME (R161, check 4): MALFORMED. -/
def execUnknownFrame (d : DistrictId) (frame : Inbound) (kind : Byte) (body : List Byte) (s : State) :
    Host.Outcome State Fault Refusal :=
  .next (s.takeFrame d frame kind false body fun t => t.answerFrame d frame.pair kind 0 .malformed [])

/-! ## Receivers -/

/-- FRAME_DISCARDED (R158): the receiver is back in HUNT and nothing else changes. -/
def execFrameDiscarded (rx : Receiver) (s : State) : Host.Outcome State Fault Refusal := .next (s.setRx rx .hunt)

/-- FRAME_GAP_TIMEOUT (R157): a frame in HEADER or BODY is cut short and discarded. -/
def execFrameGapTimeout (rx : Receiver) (s : State) : Host.Outcome State Fault Refusal :=
  .next (if (s.rxOf rx).busy then s.setRx rx .hunt else s)

/-- The receiver after its header (R157): over-length back to HUNT, otherwise BODY. -/
def afterHeader (length kind : Byte) : RxState := if Config.maxBody < length.toNat then .hunt else .body length kind

/-- A receiver after a start marker and, when they have come, the length and kind bytes (R157). -/
def RxState.takeMarker (x : RxState) (header : Option (Byte × Byte)) : RxState :=
  match x, header with
  | .hunt, none => .header
  | .hunt, some h | .header, some h => afterHeader h.1 h.2
  | .header, none => .header
  | .body l k, _ => .body l k

/-- START_MARKER_RECEIVED (R157): nothing is received in LOADING (R156) nor while the port transmits. -/
def execStartMarkerReceived (rx : Receiver) (header : Option (Byte × Byte)) (s : State) :
    Host.Outcome State Fault Refusal :=
  .next
    (if s.loader.station = .loading ∨ s.rxOff rx = true then s else s.setRx rx ((s.rxOf rx).takeMarker header))

/-! ## Sending -/

/-- The port may begin to send (R164): not LOADING (R156), nothing in transmission, neither receiver in HEADER or BODY. -/
abbrev State.maySend (s : State) (d : DistrictId) : Prop :=
  s.loader.station ≠ .loading ∧ s.ports[d].sending = none ∧ s.ports[d].rxA.busy = false ∧ s.ports[d].rxB.busy = false

/-- TRANSMIT_START (R164): the quiet interval has passed and the head of the queue begins to go out. -/
def execTransmitStart (d : DistrictId) (s : State) : Host.Outcome State Fault Refusal :=
  .next
    (match s.ports[d].queue with
      | e :: _ => if s.maySend d then s.beginSending d e else s
      | [] => s)

/-- TRANSMIT_END (R164): the entry leaves the queue; a report owed joins it (R171), and an ORDER DONE frees its place
(R76). -/
def execTransmitEnd (d : DistrictId) (s : State) : Host.Outcome State Fault Refusal :=
  .next
    (if s.ports[d].sending.isSome then
      let t := s.setPort d s.ports[d].endSending
      if s.ports[d].inTransmission.any TxEntry.isDone then t.placeFreed d else t
    else s)

/-- The always-report timer of a port runs (R173). -/
abbrev State.reportTimerRuns (s : State) (d : DistrictId) : Prop :=
  s.isRunning ∧ s.settings.districts[d].enabled = true ∧ 0 < s.ports[d].interval

/-- ALWAYS_REPORT_EXPIRY (R173): a STATUS REPORT is asked for and the timer restarts. -/
def execAlwaysReportExpiry (d : DistrictId) (s : State) : Host.Outcome State Fault Refusal :=
  .next
    (if s.reportTimerRuns d then s.setPort d { s.ports[d].askReport with timer := fullInterval s.ports[d].interval }
    else s)

end Sys2Proof.Machine
end

