-- ==== Sys2Proof/Machine/Notices.lean ====
section
/-! DEFINITION. The river notices (Table 9-8) and the sending of their answers (R166 to R169). A meaning takes the body of a
good notice as `State.takeNotice` gives; what each kind does once it is acted on is its `State.act…`. -/

namespace Sys2Proof.Machine

open Sys2Proof

/-! ## What the notices do -/

/-- PLAN (R4 to R6): rejected with PLAN_REJECTED, or written into the inactive bank. -/
def State.actPlan (s : State) (rest : List Byte) : Acted :=
  match readPlan rest with
  | none => { state := s.raiseStation .planRejected, outcome := .rejected }
  | some p => { state := s.stagePlan p, outcome := .done }

/-- The phase a MARK enters, or none for a mark that is dropped (R15, R16, Table 1-4). -/
def State.markTarget (s : State) : Option Nat :=
  match s.sequencer.mode with
  | .stepped => some (if s.sequencer.phase + 1 < s.activePlan.entries.length then s.sequencer.phase + 1 else 0)
  | .tracking =>
    if s.activePlan.entries.length ≤ s.sequencer.phase + 1 ∨ s.currentEntry.duration = 0
        ∨ s.sequencer.earlyMark = .restart then
      some 0
    else none

/-- MARK (R15, R16): a boundary, or dropped with MARK_IGNORED. -/
def State.actMark (s : State) (_ : List Byte) : Acted :=
  match s.markTarget with
  | some n => { state := (s.boundary n).settle s {}, outcome := .done }
  | none => { state := s.raiseStation .markIgnored, outcome := .ignored }

/-- STAGE (R33): the stage record holds the level and the current second. -/
def State.actStage (s : State) (rest : List Byte) : Acted :=
  { state := s.withGauges { s.gauges with stage := some { level := readStage rest, arrival := s.second } },
    outcome := .done }

/-- ADOPT (R9): a swap with a phase-0 boundary, or NOTHING_STAGED. -/
def State.actAdopt (s : State) (_ : List Byte) : Acted :=
  if s.stagedPlan.isSome then { state := (s.swapBanks.boundary 0).settle s {}, outcome := .done }
  else { state := s, outcome := .nothingStaged }

/-- The pin is set or cleared (R18, R19); a ceiling change that comes of it reaches the Roster (R20). -/
def State.setPin (s : State) (x : Option (Fin 4)) : State :=
  (s.withSequencer { s.sequencer with pin := x }).settle s {}

/-- PIN (R18). -/
def State.actPin (s : State) (rest : List Byte) : Acted :=
  match readTarget 4 rest with
  | some n => { state := s.setPin (some n), outcome := .done }
  | none => { state := s, outcome := .badTarget }

/-- UNPIN (R19). -/
def State.actUnpin (s : State) (_ : List Byte) : Acted :=
  if s.sequencer.pin.isSome then { state := s.setPin none, outcome := .done }
  else { state := s, outcome := .ignored }

/-- The hold flag of a pump. -/
def State.setHold (s : State) (p : PumpId) (x : Bool) : State := s.setPump p { s.pumps[p] with hold := x }

/-- A pump whose hold flag has just been set is taken toward HELD (R141). -/
def State.takeHold (s : State) (p : PumpId) : State :=
  match s.pumps[p].state with
  | .idle | .priming | .primed => s.moveTo p .held
  | .starting | .lifting => s.toRundown p
  | .offline | .rundown | .fault | .held => s

/-- HOLD (R141). -/
def State.actHold (s : State) (rest : List Byte) : Acted :=
  match readTarget 6 rest with
  | none => { state := s, outcome := .badTarget }
  | some p =>
    if s.pumps[p].hold then { state := s, outcome := .ignored }
    else { state := ((s.setHold p true).takeHold p).settle s {}, outcome := .done }

/-- A HELD pump whose hold flag has just been cleared enters IDLE (R142). -/
def State.takeRelease (s : State) (p : PumpId) : State := if s.pumps[p].state = .held then s.toIdle p else s

/-- RELEASE (R142). -/
def State.actRelease (s : State) (rest : List Byte) : Acted :=
  match readTarget 6 rest with
  | none => { state := s, outcome := .badTarget }
  | some p =>
    if s.pumps[p].hold then { state := ((s.setHold p false).takeRelease p).settle s {}, outcome := .done }
    else { state := s, outcome := .ignored }

/-- The kinds a CLEAR would remove from a pump's record now (R140). -/
def State.clearableKinds (s : State) (p : PumpId) : FaultKind → Bool := clearable s.pins.hot[p] s.pins.running[p]

/-- CLEAR (R140). -/
def State.actClear (s : State) (rest : List Byte) : Acted :=
  match readTarget 6 rest with
  | none => { state := s, outcome := .badTarget }
  | some p =>
    if s.pumps[p].kinds = [] then { state := s, outcome := .ignored }
    else if s.pumps[p].kinds.any (s.clearableKinds p) = true then
      { state := (s.clearKinds p (s.clearableKinds p)).settle s {}, outcome := .done }
    else { state := s, outcome := .stillActive }

/-- The portion in service on a bay names an intake (R153). -/
def State.serviceNames (s : State) (b : BayId) (i : IntakeId) : Bool :=
  match s.grantOf b with
  | none => false
  | some g =>
    match s.portion g.district g.tag b with
    | some p => p.intakes.contains i
    | none => false

/-- The arbiter of a cleared intake's bay asks for it to be opened when its portion in service names it (R153). -/
def State.reopen (s : State) (i : IntakeId) : State :=
  match s.settings.bayMap[i] with
  | none => s
  | some m => if s.serviceNames m.bay i then s.openGate i else s

/-- GATE CLEAR (R152, R153). -/
def State.actGateClear (s : State) (rest : List Byte) : Acted :=
  match readTarget 16 rest with
  | none => { state := s, outcome := .badTarget }
  | some i =>
    if s.gates[i].state = .jammed then
      { state := ((s.startClosing i).setFaulted i false).reopen i, outcome := .done }
    else { state := s, outcome := .ignored }

/-- Every station flag is cleared (R169). -/
def State.clearFlags (s : State) : State := s.withRiver { s.river with flags := 0 }

/-- POLL (R169, R175): the report composed from the state then held, then the flags cleared. -/
def State.actPoll (s : State) (_ : List Byte) : Acted :=
  { state := s.clearFlags, outcome := .done, sections := s.stationReport }

/-- A notice of unknown kind, or a malformed one (R167). -/
def State.rejectNotice (s : State) (kind : Byte) (dest : Destination) : State :=
  if dest = .station then s.holdAnswer { kind := kind, outcome := .rejected, sections := [] } else s

/-! ## The notices -/

/-- PLAN. -/
def execPlan (body : List Byte) (s : State) : Host.Outcome State Fault Refusal :=
  .next (s.takeNotice body fun t dest rest => t.actOnNotice ⟨kindPlan, none, false⟩ dest rest State.actPlan)

/-- MARK. -/
def execMark (body : List Byte) (s : State) : Host.Outcome State Fault Refusal :=
  .next (s.takeNotice body fun t dest rest => t.actOnNotice ⟨kindMark, some 0, false⟩ dest rest State.actMark)

/-- STAGE. -/
def execStage (body : List Byte) (s : State) : Host.Outcome State Fault Refusal :=
  .next (s.takeNotice body fun t dest rest => t.actOnNotice ⟨kindStage, some 2, false⟩ dest rest State.actStage)

/-- ADOPT. -/
def execAdopt (body : List Byte) (s : State) : Host.Outcome State Fault Refusal :=
  .next (s.takeNotice body fun t dest rest => t.actOnNotice ⟨kindAdopt, some 0, true⟩ dest rest State.actAdopt)

/-- PIN. -/
def execPin (body : List Byte) (s : State) : Host.Outcome State Fault Refusal :=
  .next (s.takeNotice body fun t dest rest => t.actOnNotice ⟨kindPin, some 1, true⟩ dest rest State.actPin)

/-- UNPIN. -/
def execUnpin (body : List Byte) (s : State) : Host.Outcome State Fault Refusal :=
  .next (s.takeNotice body fun t dest rest => t.actOnNotice ⟨kindUnpin, some 0, true⟩ dest rest State.actUnpin)

/-- HOLD. -/
def execHold (body : List Byte) (s : State) : Host.Outcome State Fault Refusal :=
  .next (s.takeNotice body fun t dest rest => t.actOnNotice ⟨kindHold, some 1, true⟩ dest rest State.actHold)

/-- RELEASE. -/
def execRelease (body : List Byte) (s : State) : Host.Outcome State Fault Refusal :=
  .next (s.takeNotice body fun t dest rest => t.actOnNotice ⟨kindRelease, some 1, true⟩ dest rest State.actRelease)

/-- CLEAR. -/
def execClear (body : List Byte) (s : State) : Host.Outcome State Fault Refusal :=
  .next (s.takeNotice body fun t dest rest => t.actOnNotice ⟨kindClear, some 1, true⟩ dest rest State.actClear)

/-- GATE_CLEAR. -/
def execGateClear (body : List Byte) (s : State) : Host.Outcome State Fault Refusal :=
  .next (s.takeNotice body fun t dest rest => t.actOnNotice ⟨kindGateClear, some 1, true⟩ dest rest State.actGateClear)

/-- POLL. -/
def execPoll (body : List Byte) (s : State) : Host.Outcome State Fault Refusal :=
  .next (s.takeNotice body fun t dest rest => t.actOnNotice ⟨kindPoll, some 0, true⟩ dest rest State.actPoll)

/-- UNKNOWN_NOTICE (R167). A notice of kind STATION REPLY is no unknown notice: it is dropped whatever its destination. -/
def execUnknownNotice (kind : Byte) (body : List Byte) (s : State) : Host.Outcome State Fault Refusal :=
  .next (s.takeNotice body fun t dest _ => if kind = kindStationReply then t else t.rejectNotice kind dest)

/-- STATION_REPLY_NOTICE (R167): dropped. -/
def execStationReplyNotice (body : List Byte) (s : State) : Host.Outcome State Fault Refusal :=
  .next (s.takeNotice body fun t _ _ => t)

/-! ## The answer (R168) -/

/-- STATION_REPLY_SEND: the port begins to send the answer it holds, and its receiver is off. -/
def execStationReplySend (s : State) : Host.Outcome State Fault Refusal :=
  .next
    (match s.river.answer, s.river.sending with
      | some a, none =>
        s.withRiver { s.river with rx := .hunt, sending := some (a.notices s.settings.address) }
      | _, _ => s)

/-- ANSWER_DISCARD: the answer is discarded unsent; one whose sending has begun is sent to the end (R175). -/
def execAnswerDiscard (s : State) : Host.Outcome State Fault Refusal :=
  .next (if s.river.sending = none then s.dropAnswer else s)

/-- ANSWER_SENT: the last notice of the answer has been sent; the port holds no answer and its receiver is on again. -/
def execAnswerSent (s : State) : Host.Outcome State Fault Refusal :=
  .next (if s.river.sending.isSome then s.withRiver { s.river with answer := none, sending := none } else s)

end Sys2Proof.Machine
end

