-- ==== Sys2Proof/Machine/Phases.lean ====
section
/-! DEFINITION. The Phase Sequencer's own timers: SEQUENCER_SECOND (R11) and DURATION_EXPIRY (R14). -/

namespace Sys2Proof.Machine

open Sys2Proof

/-- SEQUENCER_SECOND (R11): in TRACKING mode while the station is RUNNING the seconds elapsed rise by 1, saturating; in
STEPPED mode, and before RUNNING, they are held at 0. -/
def execSequencerSecond (s : State) : Host.Outcome State Fault Refusal :=
  .next
    (s.withSequencer
      { s.sequencer with
        elapsed :=
          if s.isRunning ∧ s.sequencer.mode = .tracking then min Config.wordBound (s.sequencer.elapsed + 1) else 0 })

/-- The current phase's duration has expired (R14): TRACKING, not the last phase, a duration above 0, and the seconds
elapsed at the duration. -/
abbrev State.durationExpired (s : State) : Prop :=
  s.isRunning ∧ s.sequencer.mode = .tracking ∧ s.sequencer.phase + 1 < s.activePlan.entries.length
    ∧ s.currentEntry.duration ≠ 0 ∧ s.currentEntry.duration * 60 ≤ s.sequencer.elapsed

/-- DURATION_EXPIRY (R14): a boundary into the next phase. Where the duration has not expired the expiry does not
happen (R15). -/
def execDurationExpiry (s : State) : Host.Outcome State Fault Refusal :=
  .next (if s.durationExpired then (s.boundary (s.sequencer.phase + 1)).settle s {} else s)

end Sys2Proof.Machine
end

