-- ==== Sys2Proof/Machine/PumpLines.lean ====
section
/-! DEFINITION. The changes of the pumps' input lines and of FEEDER OK (R124). A line that already stands at the level the command
names does not change, and no event comes of it. -/

namespace Sys2Proof.Machine

open Sys2Proof

/-- Set the READY input. -/
def State.setReady (s : State) (p : PumpId) (x : Bool) : State :=
  s.withPins { s.pins with ready := s.pins.ready.set p x }

/-- Set the RUNNING input. -/
def State.setRunning (s : State) (p : PumpId) (x : Bool) : State :=
  s.withPins { s.pins with running := s.pins.running.set p x }

/-- Set the PRIMED input. -/
def State.setPrimed (s : State) (p : PumpId) (x : Bool) : State :=
  s.withPins { s.pins with primed := s.pins.primed.set p x }

/-- Set the HOT input. -/
def State.setHot (s : State) (p : PumpId) (x : Bool) : State := s.withPins { s.pins with hot := s.pins.hot.set p x }

/-- Set the FEEDER OK input. -/
def State.setFeeder (s : State) (x : Bool) : State := s.withPins { s.pins with feederOk := x }

/-- READY becomes true: it ends a self-check (R126) or lets RUN and PRIME clear (R139). -/
def State.onReady (s : State) (p : PumpId) : State := (s.tryEndSelfCheck p).selfClear p

/-- RUNNING becomes true (R129). -/
def State.onRunning (s : State) (p : PumpId) : State :=
  if s.pumps[p].state = .starting then s.toLifting p else s

/-- RUNNING becomes false (R130, R131). -/
def State.onStopped (s : State) (p : PumpId) : State :=
  match s.pumps[p].state with
  | .rundown => s.endRundown p
  | .lifting => s.fault p .run
  | .offline | .idle | .priming | .primed | .starting | .fault | .held => s

/-- PRIMED becomes true (R127). -/
def State.onSiphonFull (s : State) (p : PumpId) : State :=
  if s.pumps[p].state = .priming then s.toPrimed p else s

/-- PRIMED becomes false (R128 to R130). -/
def State.onSiphonLost (s : State) (p : PumpId) : State :=
  match s.pumps[p].state with
  | .primed => s.toPriming p
  | .starting | .lifting => s.fault p .run
  | .offline | .idle | .priming | .rundown | .fault | .held => s

/-- READY_TRUE (R126, R139). -/
def execReadyTrue (p : PumpId) (s : State) : Host.Outcome State Fault Refusal :=
  .next (if s.pins.ready[p] then s else ((s.setReady p true).onReady p).settle s {})

/-- READY_FALSE (R124): no state rule acts on it. -/
def execReadyFalse (p : PumpId) (s : State) : Host.Outcome State Fault Refusal := .next (s.setReady p false)

/-- RUNNING_TRUE (R129). -/
def execRunningTrue (p : PumpId) (s : State) : Host.Outcome State Fault Refusal :=
  .next (if s.pins.running[p] then s else ((s.setRunning p true).onRunning p).settle s {})

/-- RUNNING_FALSE (R130, R131). -/
def execRunningFalse (p : PumpId) (s : State) : Host.Outcome State Fault Refusal :=
  .next (if s.pins.running[p] then ((s.setRunning p false).onStopped p).settle s {} else s)

/-- PRIMED_TRUE (R127). -/
def execPrimedTrue (p : PumpId) (s : State) : Host.Outcome State Fault Refusal :=
  .next (if s.pins.primed[p] then s else ((s.setPrimed p true).onSiphonFull p).settle s {})

/-- PRIMED_FALSE (R128 to R130). -/
def execPrimedFalse (p : PumpId) (s : State) : Host.Outcome State Fault Refusal :=
  .next (if s.pins.primed[p] then ((s.setPrimed p false).onSiphonLost p).settle s {} else s)

/-- HOT_TRUE (R135). -/
def execHotTrue (p : PumpId) (s : State) : Host.Outcome State Fault Refusal :=
  .next (if s.pins.hot[p] then s else ((s.setHot p true).takeHot p).settle s {})

/-- HOT_FALSE (R135): it changes nothing by itself. -/
def execHotFalse (p : PumpId) (s : State) : Host.Outcome State Fault Refusal := .next (s.setHot p false)

/-- FEEDER_OK_FALSE (R137): each controller takes it by its pump's state, and then what follows comes about. -/
def execFeederOkFalse (s : State) : Host.Outcome State Fault Refusal :=
  .next
    (if s.pins.feederOk then ((s.setFeeder false).each allPumps fun t p => t.loseSupply p).settle s {} else s)

/-- FEEDER_OK_TRUE (R138). -/
def execFeederOkTrue (s : State) : Host.Outcome State Fault Refusal :=
  .next
    (if s.pins.feederOk then s else ((s.setFeeder true).each allPumps fun t p => t.regainSupply p).settle s {})

end Sys2Proof.Machine
end

