-- ==== Sys2Proof/Machine/PumpTimers.lean ====
section
/-! DEFINITION. The expiries of the Roster's and the pumps' timers. A command of this family IS the moment its timer runs out: it
acts in the state the timer runs in, whatever seconds the record still shows, and in another state the timer is stopped and
nothing happens (notes/assumptions/6.md). -/

namespace Sys2Proof.Machine

open Sys2Proof

/-- STAGGER_EXPIRY (R112): the timer stops and the Roster considers a start. -/
def execStaggerExpiry (s : State) : Host.Outcome State Fault Refusal :=
  .next
    (if s.roster.stagger.isSome then
      (s.withRoster { s.roster with stagger := none }).settle s { consider := true }
    else s)

/-- A self-check timer that runs (R126): it is paused while FEEDER OK is false. -/
def StateTimer.isRunning : StateTimer → Bool
  | .running _ => true
  | .stopped | .paused _ => false

/-- SELF_CHECK_LIMIT_EXPIRY (R126): FAULT with kind START. -/
def execSelfCheckLimitExpiry (p : PumpId) (s : State) : Host.Outcome State Fault Refusal :=
  .next
    (if s.pumps[p].state = .offline ∧ s.loader.station = .checking ∧ s.pumps[p].timer.isRunning = true
        ∧ s.pins.ready[p] = false then
      (s.fault p .start).settle s {}
    else s)

/-- PRIME_LIMIT_EXPIRY (R127): FAULT with kind PRIME. -/
def execPrimeLimitExpiry (p : PumpId) (s : State) : Host.Outcome State Fault Refusal :=
  .next (if s.pumps[p].state = .priming then (s.fault p .prime).settle s {} else s)

/-- PRIME_HOLD_EXPIRY (R128): IDLE with PRIME off and BREAK pulsed. -/
def execPrimeHoldExpiry (p : PumpId) (s : State) : Host.Outcome State Fault Refusal :=
  .next (if s.pumps[p].state = .primed then (s.toIdle p).settle s {} else s)

/-- START_CONFIRM_EXPIRY (R129): FAULT with kind RUN. -/
def execStartConfirmExpiry (p : PumpId) (s : State) : Host.Outcome State Fault Refusal :=
  .next (if s.pumps[p].state = .starting then (s.fault p .run).settle s {} else s)

/-- RUNDOWN_LIMIT_EXPIRY (R131): with RUNNING still true, FAULT with primary STOP and the noted kinds kept. -/
def execRundownLimitExpiry (p : PumpId) (s : State) : Host.Outcome State Fault Refusal :=
  .next
    (if s.pumps[p].state = .rundown ∧ s.pins.running[p] = true then (s.fault p .stop).settle s {} else s)

/-- BREAK_PULSE_END (R123): the pulse ends and BREAK turns off. -/
def execBreakPulseEnd (p : PumpId) (s : State) : Host.Outcome State Fault Refusal :=
  .next (s.setPump p { s.pumps[p] with pulse := none })

end Sys2Proof.Machine
end

