-- ==== Sys2Proof/Machine/Timers.lean ====
section
/-! DEFINITION. The counting of the timers in seconds of the part's timebase: state timers and break pulses of the pumps
(R123, R125), travel timers (R146), the stagger timer (R112) and always-report timers (R173). -/

namespace Sys2Proof.Machine

open Sys2Proof

/-- A state timer counts the seconds that pass while it runs. -/
def StateTimer.count (n : Nat) : StateTimer → StateTimer
  | .running left => .running (left - n)
  | .stopped => .stopped
  | .paused left => .paused left

/-- A state timer counts one second. -/
def StateTimer.tick (x : StateTimer) : StateTimer := x.count 1

/-- A timer that is stopped or has seconds remaining counts the seconds that pass, to 0. -/
def countDown (n : Nat) (x : Option Nat) : Option Nat := x.map fun left => left - n

/-- A pump's timers count. -/
def Pump.count (n : Nat) (q : Pump) : Pump := { q with timer := q.timer.count n, pulse := countDown n q.pulse }

/-- A gate's travel timer counts (R146). -/
def Gate.count (n : Nat) (g : Gate) : Gate := { g with timer := countDown n g.timer }

/-- A port's always-report timer counts (R173). -/
def Port.count (n : Nat) (q : Port) : Port := { q with timer := countDown n q.timer }

/-- The timers of a station that is CHECKING or RUNNING count the seconds that pass; in LOADING and HALTED none does (R146,
R178). -/
def State.countTimers (s : State) (n : Nat) : State :=
  (((s.withPumps (Vector.ofFn fun p : Fin 6 => s.pumps[p].count n)).withGates
    (Vector.ofFn fun i : Fin 16 => s.gates[i].count n)).withRoster
      { s.roster with stagger := countDown n s.roster.stagger }).withPorts
        (Vector.ofFn fun d : Fin 4 => s.ports[d].count n)

end Sys2Proof.Machine
end

