-- ==== Sys2Proof/Machine/Sampling.lean ====
section
/-! DEFINITION. The sampling family: SAMPLE (R43), with the Meter's flows, volumes and charges (chapter 3) and the handling of
the sample by the arbiters (R92) and the Roster (R116). -/

namespace Sys2Proof.Machine

open Sys2Proof

/-! ## The Meter -/

/-- The pump is LIFTING (R45). -/
def State.lifts (s : State) (p : PumpId) : Bool := s.pumps[p].state == .lifting

/-- A pump's contribution to its bay's volume, in litres (R45). -/
def State.contribution (s : State) (p : PumpId) : Nat := if s.lifts p then (s.meter.flows[p]).getD 0 else 0

/-- The flows of a sample (R39, R40, R44). -/
def State.takeFlows (s : State) : State :=
  s.withMeter
    { s.meter with
      flows := Vector.ofFn fun p : Fin 6 => computedFlow s.settings.pumps[p].curve s.gauges.heads[bayOf p] }

/-- Run seconds (R53) and sample volumes (R46), from the flows of the sample and the pumps that are LIFTING. -/
def State.takeVolumes (s : State) : State :=
  s.withMeter
    { s.meter with
      runSeconds := Vector.ofFn fun p : Fin 6 =>
        if s.lifts p then min Config.wordBound (s.meter.runSeconds[p] + 1) else s.meter.runSeconds[p],
      volumes := Vector.ofFn fun b : Fin 3 => ((pumpsOf b).map s.contribution).sum }

/-- Charge a bay's sample volume to the six quantities of R47; a volume of 0 makes no charge (R46). -/
def State.chargeBay (s : State) (b : BayId) : State :=
  let v := s.meter.volumes[b]
  match s.grantOf b with
  | none => s
  | some g =>
    if v = 0 then s
    else
      ((s.setGrant b (some { g with volume := g.volume + v })).mapPortions g.district (fun p => p.named g.tag b)
        fun p => { p with lifted := p.lifted + v }).withAccounts (s.accounts.charge g.district v)

/-- The Meter's own part of a sample after the gauge readings (R43). -/
def State.meterSample (s : State) : State :=
  (s.takeFlows.takeVolumes).each allBays fun t b => t.chargeBay b

/-! ## Exhaustion -/

/-- The exhausted condition becomes set (R58, R97): the flags and reports of EXHAUSTED, then the closes of the grants
(DESIGN CHOICE, notes/assumptions/24.md: R58 gives no order between the ports' report and the closes). `was` is the state
before the portions of this sample ended. -/
def State.exhaustionBegins (s was : State) : State :=
  (((s.withAccounts { s.accounts with exhausted := true }).raiseStation .exhausted).reportAll .exhausted).each allBays
    fun t b => t.closeReturning was b

/-- The exhausted condition becomes clear (R58, R97). -/
def State.exhaustionEnds (s : State) : State :=
  ((s.withAccounts { s.accounts with exhausted := false }).reportAll .exhaustionEnd).arbitrateAll

/-- The Account Table evaluates the exhausted condition (R57, R58). -/
def State.evaluateExhausted (s was : State) : State :=
  if s.atAllowance = true ∧ s.accounts.exhausted = false then s.exhaustionBegins was
  else if s.atAllowance = false ∧ s.accounts.exhausted = true then s.exhaustionEnds
  else s

/-! ## The sample -/

/-- The sample has been announced (R179). -/
def State.announce (s : State) : State := s.withLoader { s.loader with sampled := true }

/-- The ends that a sample brings to the portions in service (tests 1 and 2 of R92, R96). `blindBefore` says that the station
was head-blind at the sample before: the drained test is not applied at a sample after the first of head-blind (R101;
DESIGN CHOICE between R101 and R92, notes/assumptions/25.md). -/
def State.sampleEndings (s : State) (blindBefore : Bool) : List Ending :=
  allBays.filterMap fun b => s.endTest b (!(blindBefore && s.gauges.headBlind))

/-- The arbiters act on the sample (R92), each for its own bay; `lifting` says for each bay whether a pump was LIFTING as
the Meter took the sample. -/
def State.testGrants (s was : State) (ended : List Ending) (lifting : BayId → Bool) : State :=
  s.each allBays fun t b => t.testGrant was ended b (lifting b)

/-- A sample of RUNNING after the charges: the portions that end, and their orders in the order of acceptance (R74);
exhaustion (R58); the bays whose gauge failed or recovered (R30, R31, R85), and the pumps that a close has moved (R124); what the
arbiters make of the sample (R92); then the Roster's four steps (R116). `old` is the state before the sample. -/
def State.runningSample (s old : State) (lifting : BayId → Bool) : State :=
  let ended := s.sampleEndings old.gauges.headBlind
  let a := ((s.endPortions ended).evaluateExhausted s).announce
  let b := (State.takeReports s 3 old.reports.length (a.takeServices s (s.servicesRead old))).withReports []
  let c := b.testGrants s ended lifting
  let stops := c.rosterStops
  let d := c.each stops fun t p => t.stopPump p
  d.settle b { callAll := true, consider := true, stopped := stops }

/-- The second at which a sample is taken (DESIGN CHOICE, notes/assumptions/16.md): samples are a second apart (R43), so it
is at least one past that of the sample before. -/
def State.sampleSecond (s : State) : Nat :=
  match s.meter.sampledAt with
  | none => s.second
  | some n => max s.second (n + 1)

/-- The timebase moves on to the second of the sample, and every timer that runs counts the seconds that pass (R112, R125,
R146, R173). A timer that so comes to 0 has run out: its expiry is due on the empty queue, or comes by its command. -/
def State.beginSample (s : State) : State :=
  ((s.withSecond s.sampleSecond).countTimers (s.sampleSecond - s.second)).withMeter
    { s.meter with sampledAt := some s.sampleSecond }

/-- A sample taken while the station is CHECKING or RUNNING (R23, R43). -/
def State.sample (s : State) (inputs : Vector LoopInput 4) : State :=
  let a := (s.beginSample.readGauges inputs).meterSample
  if s.isRunning then a.runningSample s fun b => (pumpsOf b).any fun p => s.lifts p
  else (a.announce).settle s {}

/-- SAMPLE (R43): while the station is LOADING or HALTED the Meter takes no sample. -/
def execSample (river bay0 bay1 bay2 : LoopInput) (s : State) : Host.Outcome State Fault Refusal :=
  .next (if s.isLive then s.sample #v[river, bay0, bay1, bay2] else s)

end Sys2Proof.Machine
end

