-- ==== Sys2Proof/Machine/StartUp.lean ====
section
/-! DEFINITION. The start-up family: STATION_RESET, RESET_RELEASE, IMAGE_READ_COMPLETE (R176 to R180). -/

namespace Sys2Proof.Machine

open Sys2Proof

/-- A station reset (R180): every block takes its reset value; the levels of the input lines stay as they are, and each
gate's state is taken from its AT SHUT input (R154). -/
def State.resetFrom (s : State) : State :=
  ((State.reset.withPending s.pending).withPins s.pins).withGates
    (Vector.ofFn fun i : Fin 16 => resetGate s.pins.atShut[i])

/-- STATION_RESET (R180). -/
def execStationReset (s : State) : Host.Outcome State Fault Refusal := .next s.resetFrom

/-- RESET_RELEASE (R180): the pin goes high with power good; the station, in LOADING, begins to read the image. A pin that
is high already does not go high. -/
def execResetRelease (s : State) : Host.Outcome State Fault Refusal :=
  .next (s.withLoader { s.loader with held := false })

/-- What the blocks take from an image at a station reset (R3, R11, R105, R162, R177). -/
structure Taken where
  settings : Settings
  plan : Plan
  adoption : Adoption
  mode : SequencerMode
  earlyMark : EarlyMark
  deriving DecidableEq, Repr

/-- What is taken from an image. -/
def takenFrom (i : Image) : Taken :=
  { settings := takeSettings i, plan := takePlan i.plan, adoption := i.adoption, mode := i.mode,
    earlyMark := i.earlyMark }

/-- What is taken from the built-in defaults (Table 10-5). -/
def takenBuiltIn : Taken :=
  { settings := builtInSettings, plan := builtInPlan, adoption := .auto, mode := .tracking, earlyMark := .ignore }

/-- A port takes its mask and interval from the settings (R162, R180). -/
def Port.takeReportSettings (q : Port) (x : DistrictSettings) : Port := { q with mask := x.mask, interval := x.interval }

/-- Each block takes its settings (R177): bank 0 holds the default plan (R3), the Roster holds its ceiling (R105). -/
def State.takeImage (s : State) (source : ImageSource) (i : Option Image) (x : Taken) : State :=
  let a := (s.withLoader { s.loader with source := some source, image := i }).withSettings x.settings
  let b := a.withPlans { banks := #v[some x.plan, none], active := 0, adoption := x.adoption }
  let c := b.withSequencer { b.sequencer with mode := x.mode, earlyMark := x.earlyMark }
  let d := c.withPorts (Vector.ofFn fun n : Fin 4 => c.ports[n].takeReportSettings x.settings.districts[n])
  d.withRoster { d.roster with heldCeiling := (x.plan.entry 0).ceiling }

/-- The travel timer of a CLOSING gate starts at entry to CHECKING (R154). -/
def Gate.startTimer (g : Gate) (travel : Nat) : Gate :=
  match g.state with
  | .closing => { g with timer := some travel }
  | .shut | .opening | .opened | .jammed => g

/-- The station enters CHECKING (R179): the closing gates are timed and the self-checks begin. What a pump that ends its check
at once reports brings nothing about before RUNNING (R85, R105). -/
def State.enterChecking (s : State) : State :=
  let a := s.setStation .checking
  let b := a.withGates (Vector.ofFn fun i : Fin 16 => a.gates[i].startTimer a.settings.travel)
  (b.each allPumps fun t p => t.startSelfCheck p).withReports []

/-- The image read completes (R176, R178). -/
def State.completeRead (s : State) (memory fuse : SourceRead) : State :=
  match chooseImage memory fuse with
  | .halted => s.setStation .halted
  | .image source i => (s.takeImage source (some i) (takenFrom i)).enterChecking
  | .builtIn => (s.takeImage .builtIn none takenBuiltIn).enterChecking

/-- IMAGE_READ_COMPLETE (R178): acts while the station is LOADING with the reset pin released; no read is in progress at
other times. -/
def execImageReadComplete (memory fuse : SourceRead) (s : State) : Host.Outcome State Fault Refusal :=
  .next (if s.loader.station = .loading ∧ s.loader.held = false then s.completeRead memory fuse else s)

end Sys2Proof.Machine
end

