-- ==== Sys2Proof/Machine/Dispatch.lean ====
section
/-! DEFINITION. The meaning of each command: one arm for each row of spec/opcode_table.json. -/

namespace Sys2Proof.Machine

open Sys2Proof

def exec (i : Instr) (s : State) : Host.Outcome State Fault Refusal :=
  match i with
  | .stationReset => Sys2Proof.Machine.execStationReset s
  | .resetRelease => Sys2Proof.Machine.execResetRelease s
  | .imageReadComplete memory fuse => Sys2Proof.Machine.execImageReadComplete memory fuse s
  | .sample river bay0 bay1 bay2 => Sys2Proof.Machine.execSample river bay0 bay1 bay2 s
  | .sequencerSecond => Sys2Proof.Machine.execSequencerSecond s
  | .durationExpiry => Sys2Proof.Machine.execDurationExpiry s
  | .plan body => Sys2Proof.Machine.execPlan body s
  | .mark body => Sys2Proof.Machine.execMark body s
  | .stage body => Sys2Proof.Machine.execStage body s
  | .adopt body => Sys2Proof.Machine.execAdopt body s
  | .pin body => Sys2Proof.Machine.execPin body s
  | .unpin body => Sys2Proof.Machine.execUnpin body s
  | .hold body => Sys2Proof.Machine.execHold body s
  | .release body => Sys2Proof.Machine.execRelease body s
  | .clear body => Sys2Proof.Machine.execClear body s
  | .gateClear body => Sys2Proof.Machine.execGateClear body s
  | .poll body => Sys2Proof.Machine.execPoll body s
  | .unknownNotice kind body => Sys2Proof.Machine.execUnknownNotice kind body s
  | .stationReplyNotice body => Sys2Proof.Machine.execStationReplyNotice body s
  | .stationReplySend => Sys2Proof.Machine.execStationReplySend s
  | .answerDiscard => Sys2Proof.Machine.execAnswerDiscard s
  | .lift d pair body => Sys2Proof.Machine.execLift d pair body s
  | .withdraw d pair body => Sys2Proof.Machine.execWithdraw d pair body s
  | .query d pair body => Sys2Proof.Machine.execQuery d pair body s
  | .setReport d pair body => Sys2Proof.Machine.execSetReport d pair body s
  | .portReset d pair body => Sys2Proof.Machine.execPortReset d pair body s
  | .unknownFrame d pair kind body => Sys2Proof.Machine.execUnknownFrame d pair kind body s
  | .frameDiscarded rx => Sys2Proof.Machine.execFrameDiscarded rx s
  | .frameGapTimeout rx => Sys2Proof.Machine.execFrameGapTimeout rx s
  | .transmitStart d => Sys2Proof.Machine.execTransmitStart d s
  | .transmitEnd d => Sys2Proof.Machine.execTransmitEnd d s
  | .alwaysReportExpiry d => Sys2Proof.Machine.execAlwaysReportExpiry d s
  | .staggerExpiry => Sys2Proof.Machine.execStaggerExpiry s
  | .selfCheckLimitExpiry p => Sys2Proof.Machine.execSelfCheckLimitExpiry p s
  | .primeLimitExpiry p => Sys2Proof.Machine.execPrimeLimitExpiry p s
  | .primeHoldExpiry p => Sys2Proof.Machine.execPrimeHoldExpiry p s
  | .startConfirmExpiry p => Sys2Proof.Machine.execStartConfirmExpiry p s
  | .rundownLimitExpiry p => Sys2Proof.Machine.execRundownLimitExpiry p s
  | .breakPulseEnd p => Sys2Proof.Machine.execBreakPulseEnd p s
  | .readyTrue p => Sys2Proof.Machine.execReadyTrue p s
  | .readyFalse p => Sys2Proof.Machine.execReadyFalse p s
  | .runningTrue p => Sys2Proof.Machine.execRunningTrue p s
  | .runningFalse p => Sys2Proof.Machine.execRunningFalse p s
  | .primedTrue p => Sys2Proof.Machine.execPrimedTrue p s
  | .primedFalse p => Sys2Proof.Machine.execPrimedFalse p s
  | .hotTrue p => Sys2Proof.Machine.execHotTrue p s
  | .hotFalse p => Sys2Proof.Machine.execHotFalse p s
  | .feederOkFalse => Sys2Proof.Machine.execFeederOkFalse s
  | .feederOkTrue => Sys2Proof.Machine.execFeederOkTrue s
  | .atOpenTrue g => Sys2Proof.Machine.execAtOpenTrue g s
  | .atOpenFalse g => Sys2Proof.Machine.execAtOpenFalse g s
  | .atShutTrue g => Sys2Proof.Machine.execAtShutTrue g s
  | .atShutFalse g => Sys2Proof.Machine.execAtShutFalse g s
  | .travelLimitExpiry g => Sys2Proof.Machine.execTravelLimitExpiry g s
  | .startMarkerReceived rx header => Sys2Proof.Machine.execStartMarkerReceived rx header s
  | .answerSent => Sys2Proof.Machine.execAnswerSent s

end Sys2Proof.Machine
end

