-- ==== Sys2Proof/Machine/Tick.lean ====
section
/-! DEFINITION. What happens on an empty queue (DESIGN CHOICE, notes/assumptions/5.md). The expiry of a timer that has run out
comes first, one at a time; when none is due, one second of the part's timebase passes. SAMPLE and SEQUENCER_SECOND have
second timers of their own (R11, R43) and come as commands. -/

namespace Sys2Proof.Machine

open Sys2Proof

/-! ## Timers that have run out -/

/-- The expiry a pump's state timer comes to (Table 7-4). -/
def expiryOf (p : PumpId) : PumpState → Option Instr
  | .offline => some (.selfCheckLimitExpiry p)
  | .priming => some (.primeLimitExpiry p)
  | .primed => some (.primeHoldExpiry p)
  | .starting => some (.startConfirmExpiry p)
  | .rundown => some (.rundownLimitExpiry p)
  | .idle | .lifting | .fault | .held => none

/-- The expiry that is due at a pump: its state timer's, or the end of its break pulse. -/
def State.pumpDue (s : State) (p : PumpId) : Option Instr :=
  if s.pumps[p].timer = .running 0 then expiryOf p s.pumps[p].state
  else if s.pumps[p].pulse = some 0 then some (.breakPulseEnd p)
  else none

/-- The travel limit of a gate has run out. -/
def State.gateDue (s : State) (i : IntakeId) : Option Instr :=
  if s.gates[i].timer = some 0 then some (.travelLimitExpiry i) else none

/-- The always-report timer of a port has run out. -/
def State.reportDue (s : State) (d : DistrictId) : Option Instr :=
  if s.ports[d].timer = some 0 then some (.alwaysReportExpiry d) else none

/-- The stagger timer has run out. -/
def State.staggerDue (s : State) : Option Instr := if s.roster.stagger = some 0 then some .staggerExpiry else none

/-- The duration of the current phase has run out (R14). -/
def State.durationDue (s : State) : Option Instr := if s.durationExpired then some .durationExpiry else none

/-- The expiries that are due, in the order in which the model takes those that fall together. -/
def State.due (s : State) : List Instr :=
  allPumps.filterMap s.pumpDue ++ allIntakes.filterMap s.gateDue ++ s.staggerDue.toList
    ++ allDistricts.filterMap s.reportDue ++ s.durationDue.toList

/-! ## One second -/

/-- One second of the timebase passes; none does while the reset pin is held (R180). -/
def State.tick (s : State) : State :=
  if s.loader.held then s
  else
    let t := s.withSecond (s.second + 1)
    if s.isLive then t.countTimers 1 else t

end Sys2Proof.Machine
end

