-- ==== Sys2Proof/Machine/Step.lean ====
section
/-! DEFINITION. One step: the command at the front of the queue; on an empty queue the next expiry that is due, or one second
of the timebase (notes/assumptions/5.md). -/

namespace Sys2Proof.Machine

open Sys2Proof

/-- What happens on an empty queue. -/
def idle (s : State) : Host.Outcome State Fault Refusal :=
  match s.due with
  | c :: _ => exec c s
  | [] => .next s.tick

/-- One step of the part. -/
def step (s : State) : Host.Outcome State Fault Refusal :=
  match s.pending with
  | c :: rest => exec c (s.withPending rest)
  | [] => idle s

/-- The state with the command that a word spells at the front of its queue; unchanged where the word spells none. -/
def State.withFetchWord (s : State) (nbits w : Nat) : State :=
  match decodeTableWord nbits w with
  | some c => s.withPending (c :: s.pending)
  | none => s

end Sys2Proof.Machine
end

