-- ==== Sys2Proof/WellFormed.lean ====
section
/-! DEFINITION. Which commands the outside can send: the operands that a field of spec/ can hold. `exec` is total and does not
read these checks. -/

namespace Sys2Proof

/-- A loop reading that Table 2-1 can give: a raw count is at most 4,095. -/
def LoopInput.wellFormed : LoopInput → Bool
  | .loopOpen => true
  | .count r => decide (r ≤ 4095)
  | .current _ => true

/-- A phase entry whose weights and run cap lie in the ranges their fields hold (Tables 1-2 and 9-6). -/
def PhaseEntry.wellFormed (e : PhaseEntry) : Bool :=
  e.weights.toList.all (fun w => decide (w ≤ 15)) && decide (e.runCap ≤ 65535)

/-- A plan of the image whose number lies in its range and whose entries do (Table 1-1). -/
def PlanImage.wellFormed (p : PlanImage) : Bool :=
  decide (p.number ≤ 65535) && p.entries.toList.all PhaseEntry.wellFormed

/-- An image source whose address is one byte (R166) and whose default plan is well formed. The length of the payload is not
given by the data sheet and not checked (notes/assumptions/27.md). -/
def SourceRead.wellFormed (r : SourceRead) : Bool := decide (r.image.address ≤ 255) && r.image.plan.wellFormed

/-- A body that an envelope holds (section 9.2). -/
def bodyFits (body : List Byte) : Bool := decide (body.length ≤ Config.maxBody)

/-- The length the body of a notice of known kind needs, destination included; a PLAN is judged by R4 (Table 9-8). -/
def noticeLength (kind : Nat) : Option Nat :=
  if kind = 0x12 ∨ kind = 0x14 ∨ kind = 0x16 ∨ kind = 0x1B then some 2
  else if kind = 0x15 ∨ kind = 0x17 ∨ kind = 0x18 ∨ kind = 0x19 ∨ kind = 0x1A then some 3
  else if kind = 0x13 then some 4
  else none

/-- The kind and body of an UNKNOWN_NOTICE: an unknown kind, or a known one other than PLAN and STATION REPLY whose body
has not the length it needs (R167). -/
def unknownNoticeForm (kind : Byte) (body : List Byte) : Bool :=
  decide (kind.toNat ≠ 0x11 ∧ kind.toNat ≠ 0x91)
    && (match noticeLength kind.toNat with
      | some n => decide (body.length ≠ n)
      | none => true)

/-- A kind that is none of the five a district sends (Table 9-7). -/
def unknownFrameKind (kind : Byte) : Bool := decide (kind.toNat = 0 ∨ 5 < kind.toNat)

/-- A command the outside can send. -/
def Instr.wellFormed : Instr → Bool
  | .imageReadComplete memory fuse => memory.wellFormed && fuse.wellFormed
  | .sample river bay0 bay1 bay2 =>
    river.wellFormed && bay0.wellFormed && bay1.wellFormed && bay2.wellFormed
  | .plan body | .mark body | .stage body | .adopt body | .pin body | .unpin body | .hold body | .release body
  | .clear body | .gateClear body | .poll body | .stationReplyNotice body => bodyFits body
  | .unknownNotice kind body => bodyFits body && unknownNoticeForm kind body
  | .lift _ _ body | .withdraw _ _ body | .query _ _ body | .setReport _ _ body | .portReset _ _ body => bodyFits body
  | .unknownFrame _ _ kind body => bodyFits body && unknownFrameKind kind
  | .stationReset | .resetRelease | .sequencerSecond | .durationExpiry | .stationReplySend | .answerDiscard
  | .frameDiscarded _ | .frameGapTimeout _ | .transmitStart _ | .transmitEnd _ | .alwaysReportExpiry _ | .staggerExpiry
  | .selfCheckLimitExpiry _ | .primeLimitExpiry _ | .primeHoldExpiry _ | .startConfirmExpiry _ | .rundownLimitExpiry _
  | .breakPulseEnd _ | .readyTrue _ | .readyFalse _ | .runningTrue _ | .runningFalse _ | .primedTrue _ | .primedFalse _
  | .hotTrue _ | .hotFalse _ | .feederOkFalse | .feederOkTrue | .atOpenTrue _ | .atOpenFalse _ | .atShutTrue _
  | .atShutFalse _ | .travelLimitExpiry _ | .startMarkerReceived _ _ | .answerSent => true

end Sys2Proof
end

