-- ==== Sys2Proof/Safety.lean ====
section
/-! DEFINITION. The vocabulary of the statements: that a command completes, which blocks it leaves alone, and the invariants of
a safe run. -/

namespace Sys2Proof.Safety

open Sys2Proof Sys2Proof.Machine

/-! ## Completion and frames -/

/-- The outcome is a next state, of which `holds` says what it holds. -/
def Completes (o : Host.Outcome State Fault Refusal) (holds : State → Prop) : Prop := ∃ t, o = .next t ∧ holds t

/-- The parts of the state, one for each field. -/
inductive Block where
  | pending
  | second
  | pins
  | loader
  | settings
  | plans
  | sequencer
  | gauges
  | meter
  | accounts
  | orders
  | arbiters
  | roster
  | pumps
  | reports
  | gates
  | ports
  | river
  deriving DecidableEq, Repr

/-- A part is the same in two states. -/
def Block.Same (s t : State) : Block → Prop
  | .pending => t.pending = s.pending
  | .second => t.second = s.second
  | .pins => t.pins = s.pins
  | .loader => t.loader = s.loader
  | .settings => t.settings = s.settings
  | .plans => t.plans = s.plans
  | .sequencer => t.sequencer = s.sequencer
  | .gauges => t.gauges = s.gauges
  | .meter => t.meter = s.meter
  | .accounts => t.accounts = s.accounts
  | .orders => t.orders = s.orders
  | .arbiters => t.arbiters = s.arbiters
  | .roster => t.roster = s.roster
  | .pumps => t.pumps = s.pumps
  | .reports => t.reports = s.reports
  | .gates => t.gates = s.gates
  | .ports => t.ports = s.ports
  | .river => t.river = s.river

/-- Every part but those named is as it was. -/
def OnlyTouches (bs : List Block) (s t : State) : Prop := ∀ k : Block, k ∉ bs → k.Same s t

/-- What the changes of one command may still move as the blocks settle (`State.settle`) while the station is RUNNING. The pump
controllers' reports are among it: none is left then. -/
def settled : List Block := [.orders, .arbiters, .roster, .pumps, .reports, .gates, .ports, .river]

/-- What the start-up boundary may move beside them, where the event may bring the station to RUNNING (R179). -/
def boundaryBlocks : List Block := [.plans, .sequencer, .accounts]

/-- Every pump but `p` is as it was. -/
def OtherPumpsSame (p : PumpId) (s t : State) : Prop := ∀ q : PumpId, q ≠ p → t.pumps[q] = s.pumps[q]

/-- Every gate but `i` is as it was. -/
def OtherGatesSame (i : IntakeId) (s t : State) : Prop := ∀ j : IntakeId, j ≠ i → t.gates[j] = s.gates[j]

/-- Every port but that of `d` is as it was. -/
def OtherPortsSame (d : DistrictId) (s t : State) : Prop := ∀ e : DistrictId, e ≠ d → t.ports[e] = s.ports[e]

/-! ## Commands that reach the block they are for -/

/-- The River Port acts on a notice with this body: RUNNING, not sending, a body an envelope holds, accepted with this
destination (R166). -/
def Heard (s : State) (body : List Byte) (dest : Destination) : Prop :=
  s.loader.station = .running ∧ s.river.sending = none ∧ body.length ≤ Config.maxBody
    ∧ s.settings.accepts body = some dest

/-- The answer the River Port holds after a notice it acted on (R168): the one given for a STATION destination, none
otherwise. -/
def AnswerIs (t : State) (dest : Destination) (kind : Byte) (outcome : NoticeOutcome) : Prop :=
  t.river.answer = if dest = .station then some { kind := kind, outcome := outcome, sections := [] } else none

/-- What a notice that is not acted on leaves (R166 to R168): the station flags and what is being sent as they were, and the
answer held as given. -/
def OnlyAnswers (s t : State) (answer : Option Answer) : Prop :=
  OnlyTouches [.river] s t ∧ t.river.flags = s.river.flags ∧ t.river.sending = s.river.sending ∧ t.river.answer = answer

/-- The notices that are acted on from any accepted destination (Table 9-8). -/
def openNotices (body : List Byte) : List Instr := [.plan body, .mark body, .stage body]

/-- The notices that are acted on from a STATION destination only (Table 9-8). -/
def stationNotices (body : List Byte) : List Instr :=
  [.adopt body, .pin body, .unpin body, .hold body, .release body, .clear body, .gateClear body, .poll body]

/-- The notices whose body needs one length after the destination (Table 9-8), each with its kind and that length. -/
def measuredNotices (body : List Byte) : List (Byte × Nat × Instr) :=
  [(kindMark, 0, .mark body), (kindStage, 2, .stage body), (kindAdopt, 0, .adopt body), (kindPin, 1, .pin body),
    (kindUnpin, 0, .unpin body), (kindHold, 1, .hold body), (kindRelease, 1, .release body), (kindClear, 1, .clear body),
    (kindGateClear, 1, .gateClear body), (kindPoll, 0, .poll body)]

/-- Every notice with this body. -/
def allNotices (kind : Byte) (body : List Byte) : List Instr :=
  openNotices body ++ stationNotices body ++ [.unknownNotice kind body, .stationReplyNotice body]

/-- A frame is not lost to a transmission of its port (R157, R160): the port sends nothing, or the frame had come before. -/
def Received (s : State) (d : DistrictId) (arrival : Arrival) : Prop := s.ports[d].sending = none ∨ arrival = .earlier

/-- A District Port acts on a frame with this body: RUNNING, received (R157), and room for a REPLY (R161). -/
def Admitted (s : State) (d : DistrictId) (arrival : Arrival) (body : List Byte) : Prop :=
  s.loader.station = .running ∧ Received s d arrival ∧ body.length ≤ Config.maxBody ∧ s.ports[d].replyCount < Config.maxReplies

/-- A REPLY to a frame of this kind. -/
def replyOf (pair : Pair) (kind tag : Byte) (outcome : ReplyOutcome) : TxEntry :=
  .reply { pair := pair, kind := kind, tag := tag, outcome := outcome, statuses := [] }

/-- A port after a good frame (R157, R160): the receiver of the pair in HUNT, the last-good pair moved to it. -/
def heardOn (q : Port) : Pair → Port
  | .a => { q with rxA := .hunt, lastGood := .a }
  | .b => { q with rxB := .hunt, lastGood := .b }

/-- The frames that a REPLY always answers, with the kind each carries. -/
def repliedFrames (d : DistrictId) (pair : Pair) (arrival : Arrival) (kind : Byte) (body : List Byte) : List (Byte × Instr) :=
  [(kindLift, .lift d ⟨pair, arrival⟩ body), (kindWithdraw, .withdraw d ⟨pair, arrival⟩ body),
    (kindSetReport, .setReport d ⟨pair, arrival⟩ body), (kindPortReset, .portReset d ⟨pair, arrival⟩ body),
    (kind, .unknownFrame d ⟨pair, arrival⟩ kind body)]

/-- The same with a QUERY. -/
def districtFrames (d : DistrictId) (pair : Pair) (arrival : Arrival) (kind : Byte) (body : List Byte) : List (Byte × Instr) :=
  (kindQuery, .query d ⟨pair, arrival⟩ body) :: repliedFrames d pair arrival kind body

/-- Only the port of `d` changed, and it is this one. -/
def PortBecomes (d : DistrictId) (s t : State) (q : Port) : Prop :=
  OnlyTouches [.ports] s t ∧ OtherPortsSame d s t ∧ t.ports[d] = q

/-! ## Invariants -/

/-- R50 to R52: the station lifted-in-phase total is the sum of the four districts' totals, credits lie within ±100,000,000
L and lifted-since-reset totals within 2⁴⁸ − 1 L. -/
def AccountsSound (s : State) : Prop :=
  (s.accounts.station = s.accounts.districts[0].liftedPhase + s.accounts.districts[1].liftedPhase
    + s.accounts.districts[2].liftedPhase + s.accounts.districts[3].liftedPhase)
  ∧ ∀ d : DistrictId, -Config.creditBound ≤ s.accounts.districts[d].credit
    ∧ s.accounts.districts[d].credit ≤ Config.creditBound ∧ s.accounts.districts[d].liftedReset ≤ Config.liftedBound

/-- A plan of 1 to 4 phases (R1). -/
def PlanSized (p : Plan) : Prop := 1 ≤ p.entries.length ∧ p.entries.length ≤ 4

/-- R2: the active bank is LOADED, every LOADED bank holds a plan of 1 to 4 phases, the phase index is below the active
plan's phase count; and before RUNNING the phase index is 0 (R12, R17). -/
def PlanInForce (s : State) : Prop :=
  (s.plans.banks[s.plans.active]).isSome = true
    ∧ (∀ b : BankId, ∀ p ∈ s.plans.banks[b], PlanSized p)
    ∧ s.sequencer.phase < s.activePlan.entries.length
    ∧ (s.loader.station ≠ .running → s.sequencer.phase = 0)

/-- A level within its range (00_scope.md, Levels). -/
def LevelInRange (x : Int) : Prop := -10000 ≤ x ∧ x ≤ 10000

/-- Table 2-2, R28: windows of at most 4 levels in range, hold counts of at most 3 and 0 in OK and SATURATED, smoothed
levels in range, and FAILED exactly while the window is empty. -/
def GaugesBounded (s : State) : Prop :=
  ∀ g : GaugeId, s.gauges.records[g].window.length ≤ Config.windowSize
    ∧ (∀ x ∈ s.gauges.records[g].window, LevelInRange x)
    ∧ s.gauges.records[g].holdCount ≤ Config.holdLimit
    ∧ (∀ x ∈ s.gauges.records[g].level, LevelInRange x)
    ∧ (s.gauges.records[g].condition = .ok ∨ s.gauges.records[g].condition = .saturated →
        s.gauges.records[g].holdCount = 0)
    ∧ (s.gauges.records[g].condition = .failed ↔ s.gauges.records[g].window = [])

/-- R70, R163, R171: at most 4 orders and 8 portions in each district; at most 4 ORDER DONE frames, 3 replies and 1 STATUS
REPORT in a transmit queue, the entry in transmission among them; a report is owed only while a STATUS REPORT is in
transmission; and a frame in transmission is the head of a queue that is not empty. -/
def QueuesBounded (s : State) : Prop :=
  ∀ d : DistrictId, s.orders.districts[d].table.length ≤ Config.maxOrders
    ∧ s.orders.districts[d].queue.length ≤ Config.maxPortions
    ∧ s.ports[d].doneCount ≤ Config.maxDone ∧ s.ports[d].replyCount ≤ Config.maxReplies
    ∧ s.ports[d].queue.countP TxEntry.isReport ≤ 1
    ∧ (s.ports[d].owes = true → s.ports[d].reportInTransmission = true)
    ∧ (s.ports[d].sending.isSome = true → s.ports[d].queue ≠ [])

/-- R67, R70: a district's orders have tags of their own, every portion of its queue is of a bay that its order names, and no
two portions of the queue share tag and bay. -/
def PortionsNamed (s : State) : Prop :=
  ∀ d : DistrictId, (s.orders.districts[d].table.map Order.tag).Nodup
    ∧ (∀ p ∈ s.orders.districts[d].queue, ∃ o ∈ s.orders.districts[d].table, o.tag = p.tag ∧ p.bay ∈ o.bays)
    ∧ s.orders.districts[d].queue.Pairwise fun p q => ¬(p.tag = q.tag ∧ p.bay = q.bay)

/-- R91, R111, R178: at most as many pumps STARTING or LIFTING as the feeder limit, each only while its bay holds a grant;
and outside CHECKING and RUNNING every pump is OFFLINE. -/
def RunningPumpsBounded (s : State) : Prop :=
  s.countingPumps.length ≤ s.settings.feeder
    ∧ (∀ p : PumpId, s.pumps[p].state.counts = true → (s.grantOf (bayOf p)).isSome = true)
    ∧ (¬s.isLive → ∀ p : PumpId, s.pumps[p].state = .offline)

/-- R84, R115, R124: every standing grant's number is below the counter the next grant takes, while RUNNING the ceiling the
Roster holds is that of the governing entry, and no report of a pump is still to be taken. In such a state a command brings
about only what its own change asks for. -/
def Calm (s : State) : Prop :=
  s.reports = [] ∧ (∀ b : BayId, ∀ g ∈ s.grantOf b, g.number < s.arbiters.counter)
    ∧ (s.loader.station = .running → s.roster.heldCeiling = s.governing.ceiling)

/-- R132, R137: a pump is in FAULT exactly while it has a primary kind, only RUNDOWN and FAULT hold noted kinds, no kind
stands twice, SUPPLY is never noted, and a RUNDOWN notes nothing but OVERHEAT (R131). -/
def FaultRecordsSound (s : State) : Prop :=
  ∀ p : PumpId, (s.pumps[p].state = .fault ↔ s.pumps[p].primary ≠ none)
    ∧ (s.pumps[p].noted ≠ [] → s.pumps[p].state = .fault ∨ s.pumps[p].state = .rundown)
    ∧ s.pumps[p].kinds.Nodup ∧ FaultKind.supply ∉ s.pumps[p].noted
    ∧ (s.pumps[p].state = .rundown → ∀ k ∈ s.pumps[p].noted, k = .overheat)

/-- R126, R135, R136, R141: a pump in a state that serves its bay is neither HOT nor held, an OFFLINE pump is not held, and
while RUNNING no pump is OFFLINE. -/
def ServingPumpsSound (s : State) : Prop :=
  ∀ p : PumpId, (s.pumps[p].state.serves = true → s.pins.hot[p] = false ∧ s.pumps[p].hold = false)
    ∧ (s.pumps[p].state = .offline → s.pumps[p].hold = false ∧ s.loader.station ≠ .running)

/-- R62, R145: an intake's faulted flag is set exactly while its gate is JAMMED, and a travel timer stands only in OPENING
and CLOSING. -/
def GatesSound (s : State) : Prop :=
  ∀ i : IntakeId, (s.orders.faulted[i] = true ↔ s.gates[i].state = .jammed)
    ∧ (s.gates[i].timer ≠ none → s.gates[i].state = .opening ∨ s.gates[i].state = .closing)

/-- The settings lie in their ranges (R166, R162, R106, R37, R25, Tables 7-4 and 10-5). -/
def SettingsInRange (t : Settings) : Prop :=
  (1 ≤ t.address ∧ t.address ≤ 254)
    ∧ (∀ d : DistrictId, t.districts[d].mask &&& ~~~maskBits = 0 ∧ t.districts[d].interval ≤ 3600)
    ∧ (∀ b : BayId, LevelInRange t.bays[b].startLevel ∧ LevelInRange t.bays[b].stopLevel ∧ 0 ≤ t.bays[b].loss
        ∧ t.bays[b].loss ≤ 2000)
    ∧ (∀ g : GaugeId, LevelInRange t.gauges[g].mount ∧ 100 ≤ t.gauges[g].span ∧ t.gauges[g].span ≤ 20000
        ∧ -500 ≤ t.gauges[g].trim ∧ t.gauges[g].trim ≤ 500)
    ∧ (5 ≤ t.selfCheck ∧ t.selfCheck ≤ 120) ∧ (30 ≤ t.prime ∧ t.prime ≤ 900)
    ∧ (60 ≤ t.primeHold ∧ t.primeHold ≤ 3600) ∧ (2 ≤ t.startConfirm ∧ t.startConfirm ≤ 30)
    ∧ (10 ≤ t.rundown ∧ t.rundown ≤ 300) ∧ (10 ≤ t.travel ∧ t.travel ≤ 600) ∧ (1 ≤ t.feeder ∧ t.feeder ≤ 6)
    ∧ (5 ≤ t.stagger ∧ t.stagger ≤ 300) ∧ t.shedMargin ≤ 1000 ∧ (60 ≤ t.freshness ∧ t.freshness ≤ 3600)

/-! ## What commands bring about -/

/-- The plan banks after a swap (R7). -/
def swapped (p : PlanStore) : PlanStore :=
  { p with banks := p.banks.set p.active none, active := p.active + 1 }

/-- The plan banks after the examination of a phase-0 boundary (R8, R10). -/
def examined (s : State) : PlanStore :=
  if s.plans.adoption = .auto ∧ s.stagedPlan.isSome = true then swapped s.plans else s.plans

/-- The port of `d` has taken a report event, where the district is enabled and its mask enables the event (R171). -/
def EventTaken (e : ReportEvent) (d : DistrictId) (s t : State) : Prop :=
  s.settings.districts[d].enabled = true → s.ports[d].mask &&& e.bit ≠ 0 → t.ports[d].flags &&& e.bit ≠ 0

/-- Every port has taken a report event that it may take. -/
def EventTakenByAll (e : ReportEvent) (s t : State) : Prop := ∀ d : DistrictId, EventTaken e d s t

/-- A station flag is up (R174). -/
def FlagUp (f : StationFlag) (t : State) : Prop := t.river.flags &&& f.bit ≠ 0

/-- PLAN_ADOPTED has been raised and taken, where the banks were swapped (R7). -/
def AdoptionSignalled (s t : State) : Prop :=
  t.plans ≠ s.plans → FlagUp .planAdopted t ∧ EventTakenByAll .planAdopted s t

/-- Accounts after a boundary's replenish from an entry (R54, R55): each district's credit raised by floor(A × w / W), nothing when
W is 0, and held to 100,000,000 L; the phase totals 0; lifted since reset and the exhausted condition as they stood. -/
def Replenished (e : PhaseEntry) (old new : AccountTable) : Prop :=
  let w := e.weights[0] + e.weights[1] + e.weights[2] + e.weights[3]
  (∀ d : DistrictId, new.districts[d] =
    { credit :=
        min 100000000
          (old.districts[d].credit + (if w = 0 then 0 else e.allowance * 1000 * e.weights[d] / w : Nat)),
      liftedPhase := 0, liftedReset := old.districts[d].liftedReset })
  ∧ new.station = 0 ∧ new.exhausted = old.exhausted

/-- A pump that was IDLE has been called to prime (R107, R127): PRIMING, or with PRIMED already true PRIMED, from where the Roster
may have started it. -/
def Called (p : PumpId) (s t : State) : Prop :=
  if s.pins.primed[p] then t.pumps[p].state = .primed ∨ t.pumps[p].state.counts = true
  else
    t.pumps[p] = { s.pumps[p] with state := .priming, timer := .running s.settings.prime, pulse := none }

/-- Every pump that was IDLE and whose bay stands GRANTED at or above its start level has been called, where the supply lets the call
be carried out (R107, R127). -/
def IdlePumpsCalled (s t : State) : Prop :=
  ∀ q : PumpId, s.pumps[q].state = .idle → (t.grantOf (bayOf q)).isSome = true → s.aboveStart (bayOf q) = true →
    s.pins.feederOk = true → Called q s t

/-- A grant has started in bay `b` (R84, R87, R88), won from the queues of `u`: a candidate portion, URGENT when there is an URGENT
one, of greatest credit, of equal credits the first after the rotation pointer. It is IN SERVICE with its intakes opened unless
JAMMED, the pointer names its district, whose port has taken GRANT_START, the number is the counter's or later, volume 0, mark no,
and the IDLE pumps of the bay are called when the level stands at or above the start level. -/
def GrantStarted (b : BayId) (u s t : State) : Prop :=
  ∃ h ∈ t.grantOf b, h.volume = 0 ∧ h.lifting = false
    ∧ (s.arbiters.counter + 100 ≤ 4294967295 → s.arbiters.counter ≤ h.number)
    ∧ t.arbiters.bays[b].pointer = h.district ∧ EventTaken .grantStart h.district s t
    ∧ (∃ q ∈ u.candidate h.district b, q.tag = h.tag
        ∧ (∃ r ∈ t.orders.districts[h.district].queue, r = { q with state := .inService })
        ∧ (∀ i ∈ q.intakes, t.gates[i].state = .opened ∨ t.gates[i].state = .opening ∨ t.gates[i].state = .jammed)
        ∧ (∀ x : DistrictId, ∀ c ∈ u.candidate x b, (c.cls = .urgent → q.cls = .urgent)
            ∧ (c.cls = .urgent ∨ q.cls ≠ .urgent →
                t.accounts.districts[x].credit ≤ t.accounts.districts[h.district].credit
                ∧ (t.accounts.districts[x].credit = t.accounts.districts[h.district].credit →
                    h.district - (s.arbiters.bays[b].pointer + 1) ≤ x - (s.arbiters.bays[b].pointer + 1)))))
    ∧ (∀ p : PumpId, bayOf p = b → s.pumps[p].state = .idle → s.pins.feederOk = true → s.aboveStart b = true → Called p s t)

/-- A grant stands on as it was. -/
def GrantStands (g : Grant) (b : BayId) (t : State) : Prop :=
  ∃ h ∈ t.grantOf b, h.district = g.district ∧ h.tag = g.tag ∧ h.volume = g.volume ∧ h.lifting = g.lifting

/-- What a boundary makes of the bays (R13, R87, R102): a FREE bay arbitrates, and a grant starts where the bay is serviceable,
a candidate waits and the station is not exhausted, and otherwise none; a GRANTED bay keeps its grant. -/
def BaysArbitrated (s t : State) : Prop :=
  ∀ b : BayId,
    (s.grantOf b = none → s.service b = .serviceable → s.accounts.exhausted = false →
        (∃ d : DistrictId, (s.candidate d b).isSome = true) → GrantStarted b s s t)
    ∧ (s.grantOf b = none →
        (s.service b ≠ .serviceable ∨ s.accounts.exhausted = true ∨ ∀ d : DistrictId, s.candidate d b = none) →
        t.grantOf b = none)
    ∧ (∀ g ∈ s.grantOf b, GrantStands g b t)

/-- A boundary into phase `n` was made (R13), the plan banks ending as given: the phase position, PLAN_ADOPTED where the banks
were swapped (R7), the replenish from the governing entry of the new phase (R54, R55), PHASE_CHANGE at the ports that enable it,
the arbitrations, and nothing else but what the blocks make of it. -/
def BoundaryMade (n : Nat) (plans : PlanStore) (s t : State) : Prop :=
  t.sequencer =
      { s.sequencer with
        phase := n, elapsed := 0, cycle := if n = 0 then s.sequencer.cycle + 1 else s.sequencer.cycle }
    ∧ t.plans = plans ∧ AdoptionSignalled s t
    ∧ Replenished t.governing s.accounts t.accounts
    ∧ EventTakenByAll .phaseChange s t
    ∧ (PortionsNamed s → ServingPumpsSound s → BaysArbitrated s t)
    ∧ OnlyTouches (.plans :: .sequencer :: .accounts :: settled) s t

/-- The station has gone from CHECKING to RUNNING (R179): the start-up boundary (R12), the flags and report events that have
gathered (R32, R36, R86, R133, R155), and the always-report timers started (R173). -/
def StartedUp (s t : State) : Prop :=
  t.loader = { s.loader with station := .running, sampled := true }
    ∧ t.sequencer = { s.sequencer with phase := 0, elapsed := 0, cycle := s.sequencer.cycle + 1 }
    ∧ t.plans = examined s ∧ AdoptionSignalled s t
    ∧ ((∀ b : BayId, s.grantOf b = none) → Replenished t.governing s.accounts t.accounts)
    ∧ EventTakenByAll .phaseChange s t
    ∧ ((∃ g : GaugeId, t.gauges.records[g].condition = .failed) → FlagUp .gaugeFailed t)
    ∧ (t.gauges.headBlind = true → FlagUp .headBlind t ∧ EventTakenByAll .headBlind s t)
    ∧ ((∃ p : PumpId, s.pumps[p].state = .fault ∨ t.pumps[p].state = .fault) →
        FlagUp .pumpFault t ∧ EventTakenByAll .pumpFault s t)
    ∧ (∀ i : IntakeId, s.gates[i].state = .jammed →
        FlagUp .gateJammed t ∧ ∀ d : DistrictId, s.settings.owns i d = true → EventTaken .gateJammed d s t)
    ∧ (∀ b : BayId, t.gauges.records[gaugeOf b].condition = .failed
        ∨ (∀ p : PumpId, bayOf p = b → s.pumps[p].state = .fault ∨ s.pumps[p].state = .held) →
          EventTakenByAll .bayUnserved s t)
    ∧ (∀ d : DistrictId, s.settings.districts[d].enabled = true → 0 < s.ports[d].interval →
        t.ports[d].timer = some s.ports[d].interval)

/-- The portion of `d` with this tag, bay and target has ended with this outcome and lifted volume: it waits ENDED in the
queue for its order's end, or the ORDER DONE of its order is queued and says so (R74, R78). -/
def EndedAs (d : DistrictId) (tag : Byte) (b : BayId) (target : Nat) (x : PortionOutcome) (lifted : Nat) (t : State) : Prop :=
  (∃ q ∈ t.orders.districts[d].queue, q.tag = tag ∧ q.bay = b ∧ q.state = .ended x ∧ q.lifted = lifted)
    ∨ ∃ f : DoneFrame, TxEntry.orderDone f ∈ t.ports[d].queue ∧ f.tag = tag
        ∧ { bay := b, target := target, outcome := x, lifted := lifted } ∈ f.portions

/-- The pump of `p` has entered FAULT with this primary kind and these noted kinds (R132, R133): its timers stopped, its hold
flag kept. -/
def Faulted (p : PumpId) (k : FaultKind) (noted : List FaultKind) (s t : State) : Prop :=
  t.pumps[p] =
    { state := .fault, primary := some k, noted := noted, hold := s.pumps[p].hold, timer := .stopped, pulse := none }

/-- A fault of `p` that arises now is not cleared in the same event (R139): READY is false, or the other pump of its bay keeps
the bay serviceable under its grant, not HOT, as no pump that serves is (`ServingPumpsSound`). -/
def FaultStands (p : PumpId) (s : State) : Prop :=
  s.pins.ready[p] = false
    ∨ ((s.grantOf (bayOf p)).isSome = true ∧ s.gauges.records[gaugeOf (bayOf p)].condition ≠ .failed
        ∧ ∃ q : PumpId, q ≠ p ∧ bayOf q = bayOf p ∧ s.pumps[q].state.serves = true ∧ s.pins.hot[q] = false)

/-- The gauge of the pump's bay is not FAILED and no other pump keeps the bay from going out of service (R85). -/
def LastOfBay (p : PumpId) (s : State) : Prop :=
  s.gauges.records[gaugeOf (bayOf p)].condition ≠ .failed
    ∧ ∀ q : PumpId, q ≠ p → bayOf q = bayOf p → s.pumps[q].state.serves = false ∧ s.pumps[q].state ≠ .rundown

/-- The bay went out of service (R86, R98): BAY_UNSERVED is taken, and the grant that it held has closed: a grant that it holds
now began after that. -/
def Unserved (b : BayId) (s t : State) : Prop :=
  EventTakenByAll .bayUnserved s t
    ∧ ∀ h ∈ t.grantOf b, s.arbiters.counter + 100 ≤ 4294967295 → s.arbiters.counter ≤ h.number

/-- PUMP_FAULT has been signalled to the River Port, if the station was RUNNING (R133, R174). -/
def PumpFaultFlagged (s t : State) : Prop :=
  s.loader.station = .running → t.river.flags &&& StationFlag.pumpFault.bit ≠ 0

/-- The Roster cannot have a call carried out at the pump (R107, R127). -/
def NotCallable (p : PumpId) (s : State) : Prop :=
  s.pins.feederOk = false ∨ s.aboveStart (bayOf p) = false

/-- The pump holds no kind and stands in IDLE, or where a call and a start have taken it from there at once (R107, R115). -/
def BackInUse (p : PumpId) (s t : State) : Prop :=
  t.pumps[p].state.serves = true ∧ t.pumps[p].primary = none ∧ t.pumps[p].noted = []
    ∧ (NotCallable p s → t.pumps[p].state = .idle)

/-- A value of the image held to a range (R177): the nearer bound where it lies outside, itself where it lies inside. -/
def HeldTo (lo hi x y : Int) : Prop := (x < lo → y = lo) ∧ (hi < x → y = hi) ∧ (lo ≤ x → x ≤ hi → y = x)

/-- What is taken of the settings of an image (R177, Table 10-5): each number held to its range, codes that name nothing replaced
(R25, R125, R156), mask bits 10 to 15 ignored (R162), an intake MAPPED only with a bay and an owner (R61), and the rest as it
stands. -/
def SettingsTaken (i : Image) (t : Settings) : Prop :=
  HeldTo 1 254 i.address t.address ∧ t.groups = i.groups ∧ t.acceptAll = i.acceptAll
    ∧ t.bitRate = i.bitRate.getD .b19200
    ∧ (∀ d : DistrictId, t.districts[d].enabled = i.districts[d].enabled ∧ t.districts[d].critical = i.districts[d].critical
        ∧ t.districts[d].mask = i.districts[d].mask &&& 0x03FF ∧ HeldTo 0 3600 i.districts[d].interval t.districts[d].interval)
    ∧ (∀ n : IntakeId, t.bayMap[n] =
        match i.bayMap[n].bay with
        | some b =>
          if i.bayMap[n].mapped = true ∧ ∃ d : DistrictId, i.bayMap[n].owners[d] = true then
            some { bay := b, owners := i.bayMap[n].owners }
          else none
        | none => none)
    ∧ (∀ p : PumpId, t.pumps[p].curve = i.pumps[p].curve ∧ t.pumps[p].overheat = i.pumps[p].overheat.getD .trip)
    ∧ (∀ b : BayId, HeldTo (-10000) 10000 i.bays[b].startLevel t.bays[b].startLevel
        ∧ HeldTo (-10000) 10000 i.bays[b].stopLevel t.bays[b].stopLevel ∧ HeldTo 0 2000 i.bays[b].loss t.bays[b].loss)
    ∧ (∀ g : GaugeId, t.gauges[g].kind = i.gauges[g].kind.getD .depth
        ∧ HeldTo (-10000) 10000 i.gauges[g].mount t.gauges[g].mount ∧ HeldTo 100 20000 i.gauges[g].span t.gauges[g].span
        ∧ HeldTo (-500) 500 i.gauges[g].trim t.gauges[g].trim)
    ∧ HeldTo 5 120 i.limits.selfCheck t.selfCheck ∧ HeldTo 30 900 i.limits.prime t.prime
    ∧ HeldTo 60 3600 i.limits.primeHold t.primeHold ∧ HeldTo 2 30 i.limits.startConfirm t.startConfirm
    ∧ HeldTo 10 300 i.limits.rundown t.rundown ∧ HeldTo 10 600 i.limits.travel t.travel
    ∧ HeldTo 1 6 i.limits.feeder t.feeder ∧ HeldTo 5 300 i.limits.stagger t.stagger
    ∧ HeldTo 0 1000 i.limits.shedMargin t.shedMargin ∧ HeldTo 60 3600 i.limits.freshness t.freshness

/-- What is taken of the default plan of an image (R3): with a phase count of 1 to 4 that many entries in their order, duration,
ceiling and allowance held to range; otherwise the built-in default plan, number 0 with one entry of zeros. -/
def DefaultPlanTaken (i : PlanImage) (p : Plan) : Prop :=
  if 1 ≤ i.phaseCount ∧ i.phaseCount ≤ 4 then
    p.number = i.number ∧ p.entries.length = i.phaseCount
    ∧ ∀ n : Fin 4, ∀ e ∈ p.entries[n.val]?,
        HeldTo 0 1440 i.entries[n].duration e.duration ∧ HeldTo 0 20000 i.entries[n].ceiling e.ceiling
        ∧ HeldTo 0 1000000 i.entries[n].allowance e.allowance
        ∧ e.weights = i.entries[n].weights ∧ e.runCap = i.entries[n].runCap
  else
    p = { number := 0,
          entries := [{ duration := 0, ceiling := 0, allowance := 0, weights := #v[0, 0, 0, 0], runCap := 0 }] }

/-- A step keeps an invariant. -/
def StepKeeps (inv : State → Prop) : Prop := ∀ s t : State, inv s → step s = .next t → inv t

end Sys2Proof.Safety
end

