-- ==== Sys2Proof/Certificates/Slice0/Obligations.lean ====
section
/-! DEFINITION. The statements for the provers. "t" is the state a command leads to; `Completes` says that there is one. -/

open Sys2Proof Sys2Proof.Machine Sys2Proof.Safety

/-! ## The step, reset and start-up -/

/-- A step takes the command at the front of the queue and runs it with the queue's rest (notes/assumptions/5.md). -/
def Obligations.StepRunsFrontCommand : Prop :=
  ∀ (c : Instr) (rest : List Instr) (s : State), step (s.withPending (c :: rest)) = exec c (s.withPending rest)

/-- The model's choice for an empty queue (notes/assumptions/5.md): the first expiry that is due happens, and when none is due
one second passes, in which the timers count down while the station is CHECKING or RUNNING (R112, R125, R146, R173). -/
def Obligations.EmptyQueueRunsTimers : Prop :=
  ∀ (s : State), s.pending = [] →
    (∀ c ∈ s.due.head?, step s = exec c s)
    ∧ (s.due = [] → s.loader.held = true → step s = .next s)
    ∧ (s.due = [] → s.loader.held = false → Completes (step s) fun t =>
        t.second = s.second + 1
        ∧ OnlyTouches [.second, .roster, .pumps, .gates, .ports] s t
        ∧ (¬s.isLive → OnlyTouches [.second] s t)
        ∧ (s.isLive →
            t.roster = { s.roster with stagger := s.roster.stagger.map fun n => n - 1 }
            ∧ (∀ p : PumpId, t.pumps[p] =
                { s.pumps[p] with
                  timer := s.pumps[p].timer.tick, pulse := s.pumps[p].pulse.map fun n => n - 1 })
            ∧ (∀ i : IntakeId, t.gates[i] = { s.gates[i] with timer := s.gates[i].timer.map fun n => n - 1 })
            ∧ (∀ d : DistrictId, t.ports[d] = { s.ports[d] with timer := s.ports[d].timer.map fun n => n - 1 })))

/-- What reset leaves, in the fields whose value the rules state: LOADING with no image (R180), bank 1 EMPTY and the selector at
bank 0 (R3), bays FREE with pointers at D3 (R83), the
grant number counter at 1 (R84), the Roster's records (R105), the held ceiling that of the phase in force, pumps OFFLINE with empty
records and the self-check timer loaded and not counting (R125), gauges FAILED with empty windows (R25), the river level invalid with source NONE, no head, and
head-blind set (R35 to R37), gates by AT SHUT with their timers stopped (R154), accounts and totals 0 and the exhausted condition
clear (Tables 3-1, 3-2), run seconds 0 (R53), the phase position (Table 1-3), tables and queues empty (R70), no flag raised
(R62, R174), and the ports with their receivers in HUNT (R157), nothing in transmission and no answer held (R180). -/
def Obligations.ResetStateHoldsStatedValues : Prop :=
  ∀ (d : DistrictId) (b : BayId) (p : PumpId) (g : GaugeId) (i : IntakeId),
    State.reset.loader.station = .loading ∧ State.reset.loader.image = none
    ∧ State.reset.plans.banks[1] = none ∧ State.reset.plans.active = 0
    ∧ State.reset.roster.heldCeiling = (State.reset.activePlan.entry 0).ceiling
    ∧ (∃ n : Nat, State.reset.pumps[p].timer = .paused n)
    ∧ State.reset.gauges.river = none ∧ State.reset.gauges.heads[b] = none
    ∧ State.reset.gates[i] =
      (if State.reset.pins.atShut[i] then { state := .shut, timer := none } else { state := .closing, timer := none })
    ∧ State.reset.ports[d].rxA = .hunt ∧ State.reset.ports[d].rxB = .hunt ∧ State.reset.river.rx = .hunt
    ∧ State.reset.ports[d].sending = none ∧ State.reset.river.sending = none
    ∧ State.reset.arbiters.bays[b] = { grant := none, pointer := 3 } ∧ State.reset.arbiters.counter = 1
    ∧ State.reset.roster.stagger = none ∧ State.reset.roster.outstanding = none
    ∧ State.reset.roster.numbers[p] = none ∧ State.reset.roster.counter = 1
    ∧ State.reset.pumps[p].state = .offline ∧ State.reset.pumps[p].kinds = [] ∧ State.reset.pumps[p].hold = false
    ∧ State.reset.pumps[p].pulse = none
    ∧ State.reset.gauges.records[g] = { window := [], holdCount := 0, condition := .failed }
    ∧ State.reset.gauges.stage = none ∧ State.reset.gauges.source = .none ∧ State.reset.gauges.headBlind = true
    ∧ State.reset.accounts.districts[d] = { credit := 0, liftedPhase := 0, liftedReset := 0 }
    ∧ State.reset.accounts.station = 0 ∧ State.reset.accounts.exhausted = false
    ∧ State.reset.meter.flows[p] = none ∧ State.reset.meter.runSeconds[p] = 0 ∧ State.reset.meter.volumes[b] = 0
    ∧ State.reset.sequencer.phase = 0 ∧ State.reset.sequencer.elapsed = 0 ∧ State.reset.sequencer.pin = none
    ∧ State.reset.sequencer.cycle = 0
    ∧ State.reset.orders.districts[d] = { table := [], queue := [], finished := [] }
    ∧ State.reset.orders.faulted[i] = false
    ∧ State.reset.ports[d].queue = [] ∧ State.reset.ports[d].lastGood = .a ∧ State.reset.ports[d].flags = 0
    ∧ State.reset.ports[d].owes = false ∧ State.reset.ports[d].timer = none
    ∧ State.reset.river.flags = 0 ∧ State.reset.river.answer = none

/-- STATION_RESET gives every block its reset value, and takes each gate's state from its AT SHUT input with the timer
stopped (R154, R180). What the rules do not say of it is the model's choice: the settings stand at the built-in defaults and
the timebase at 0 (notes/assumptions/2.md), the levels of the input lines and the queue of waiting commands stay
(notes/assumptions/7.md). RESET_RELEASE lets the Settings Loader begin (R180). -/
def Obligations.ResetCommandsComplete : Prop :=
  ∀ (s : State),
    (Completes (exec .stationReset s) fun t =>
      OnlyTouches [.pending, .pins, .gates] State.reset t ∧ t.pending = s.pending ∧ t.pins = s.pins
      ∧ ∀ i : IntakeId,
          t.gates[i] = if s.pins.atShut[i] then { state := .shut, timer := none } else { state := .closing, timer := none })
    ∧ (Completes (exec .resetRelease s) fun t =>
      OnlyTouches [.loader] s t ∧ t.loader = { s.loader with held := false })

/-- IMAGE_READ_COMPLETE (R176 to R179): a configuration memory that answers with the marker commits the station to it, HALTED
when its checksum differs or the read breaks off; otherwise a good fuse block, otherwise the built-in defaults. Each block
takes its settings, every number held to the nearer bound of its range and the default plan replaced where its phase count lies
outside 1 to 4 (R3, R177); the station enters CHECKING, closing gates are timed, and a pump whose READY is false begins its
self-check (R126). The model's choices: the command carries the settings that the image's bytes spell, of which the rules give no
layout (notes/assumptions/4.md), and a payload of any length is taken (notes/assumptions/27.md). -/
def Obligations.ImageReadChoosesSourceAndStartsChecking : Prop :=
  ∀ (memory fuse : SourceRead) (s : State), s.loader.station = .loading → s.loader.held = false →
    Completes (exec (.imageReadComplete memory fuse) s) fun t =>
      (if memory.answers = true ∧ memory.marker = 0x4D36 then
        if memory.whole = true ∧ crc16 memory.payload = memory.checksum then
          t.loader = { s.loader with station := .checking, source := some .memory, image := some memory.image }
          ∧ t.settings = takeSettings memory.image ∧ SettingsTaken memory.image t.settings
          ∧ DefaultPlanTaken memory.image.plan (takePlan memory.image.plan)
          ∧ t.plans = { banks := #v[some (takePlan memory.image.plan), none], active := 0, adoption := memory.image.adoption }
          ∧ t.sequencer = { s.sequencer with mode := memory.image.mode, earlyMark := memory.image.earlyMark }
        else t = s.setStation .halted
      else if fuse.answers = true ∧ fuse.marker = 0x4D36 ∧ fuse.whole = true ∧ crc16 fuse.payload = fuse.checksum then
        t.loader = { s.loader with station := .checking, source := some .fuse, image := some fuse.image }
        ∧ t.settings = takeSettings fuse.image ∧ SettingsTaken fuse.image t.settings
        ∧ DefaultPlanTaken fuse.image.plan (takePlan fuse.image.plan)
        ∧ t.plans = { banks := #v[some (takePlan fuse.image.plan), none], active := 0, adoption := fuse.image.adoption }
        ∧ t.sequencer = { s.sequencer with mode := fuse.image.mode, earlyMark := fuse.image.earlyMark }
      else
        t.loader = { s.loader with station := .checking, source := some .builtIn, image := none }
        ∧ t.settings = builtInSettings
        ∧ t.plans = { banks := #v[some builtInPlan, none], active := 0, adoption := .auto }
        ∧ t.sequencer = { s.sequencer with mode := .tracking, earlyMark := .ignore })
      ∧ OnlyTouches [.loader, .settings, .plans, .sequencer, .roster, .pumps, .reports, .gates, .ports, .river] s t
      ∧ (t.loader.station = .checking →
          t.roster.heldCeiling = (t.activePlan.entry 0).ceiling
          ∧ (∀ d : DistrictId, t.ports[d].mask = t.settings.districts[d].mask
              ∧ t.ports[d].interval = t.settings.districts[d].interval)
          ∧ (∀ i : IntakeId, t.gates[i] =
              if s.gates[i].state = .closing then { state := .closing, timer := some t.settings.travel } else s.gates[i])
          ∧ (∀ p : PumpId, s.pumps[p].state = .offline → s.pins.ready[p] = false →
              t.pumps[p] =
                { s.pumps[p] with
                  timer := if s.pins.feederOk then .running t.settings.selfCheck else .paused t.settings.selfCheck }))

/-! ## Samples -/

/-- SAMPLE while CHECKING or RUNNING: each gauge takes its reading (Table 2-3), the river level source and level follow Table
2-4, the heads R37, the flows R39 and R40, run seconds R53 and sample volumes R46 from the pumps that were LIFTING; in LOADING
and HALTED no sample is taken (R43). A loop current reads as Table 2-1 gives: LOOP OPEN below 3.6 mA, 0 up to 4 mA, 4,095 from
20 mA, and between them the count in equal steps, of which one free threshold says where the next begins (the model's form of the
rounding that R24 leaves open, notes/assumptions/1.md). The timebase stands at least one second past the sample before (the model's choice,
notes/assumptions/16.md). RUNNING, GAUGE_FAILED is raised when a gauge fails (R30) and HEAD_BLIND when the condition becomes
set (R36). In CHECKING the sample is announced: with no pump OFFLINE the station goes to RUNNING, with all that the start-up
brings (R12, R179), and otherwise stays in CHECKING without a boundary (R126). -/
def Obligations.SampleTakesReadingsFlowsAndVolumes : Prop :=
  ∀ (river bay0 bay1 bay2 : LoopInput) (s : State),
    (¬s.isLive → exec (.sample river bay0 bay1 bay2) s = .next s)
    ∧ (∃ threshold : Nat, ∀ (microamps : Nat) (g : GaugeId),
        let reads : LoopInput → GaugeRecord := fun x => s.gauges.records[g].read s.settings.gauges[g] x
        let step := (microamps - 4000) * 4095 / 16000
        let past := (microamps - 4000) * 4095 % 16000
        (microamps < 3600 → reads (.current microamps) = reads .loopOpen)
        ∧ (3600 ≤ microamps → microamps ≤ 4000 → reads (.current microamps) = reads (.count 0))
        ∧ (20000 ≤ microamps → reads (.current microamps) = reads (.count 4095))
        ∧ (4000 < microamps → microamps < 20000 → step ≤ 4094
            ∧ reads (.current microamps) = reads (.count (if 0 < past ∧ threshold ≤ past then step + 1 else step))))
    ∧ (s.isLive → Completes (exec (.sample river bay0 bay1 bay2) s) fun t =>
        (∀ g : GaugeId, t.gauges.records[g] =
          s.gauges.records[g].read s.settings.gauges[g] (#v[river, bay0, bay1, bay2])[g])
        ∧ t.gauges.stage = s.gauges.stage
        ∧ t.second = (match s.meter.sampledAt with | none => s.second | some n => max s.second (n + 1))
        ∧ t.meter.sampledAt = some t.second
        ∧ (match t.gauges.records[0].level, t.stageFresh with
            | some x, _ => t.gauges.source = .gauge ∧ t.gauges.river = some x
            | none, some x => t.gauges.source = .stage ∧ t.gauges.river = some x
            | none, none => t.gauges.source = .none ∧ t.gauges.river = none)
        ∧ t.gauges.headBlind = (t.gauges.source == .none)
        ∧ (∀ b : BayId, t.gauges.heads[b] =
            match t.gauges.river, t.bayLevel b with
            | some r, some x => some (r - x + s.settings.bays[b].loss)
            | _, _ => none)
        ∧ (∀ p : PumpId, t.meter.flows[p] = computedFlow s.settings.pumps[p].curve t.gauges.heads[bayOf p])
        ∧ (∀ p : PumpId, t.meter.runSeconds[p] =
            if s.pumps[p].state = .lifting then min Config.wordBound (s.meter.runSeconds[p] + 1) else s.meter.runSeconds[p])
        ∧ (∀ b : BayId, t.meter.volumes[b] =
            ((pumpsOf b).map fun p => if s.pumps[p].state = .lifting then (t.meter.flows[p]).getD 0 else 0).sum)
        ∧ t.loader.sampled = true
        ∧ OnlyTouches (.second :: .gauges :: .meter :: .loader :: .plans :: .sequencer :: .accounts :: settled) s t
        ∧ (s.loader.station = .running →
            ((∃ g : GaugeId, s.gauges.records[g].condition ≠ .failed ∧ t.gauges.records[g].condition = .failed) →
              FlagUp .gaugeFailed t)
            ∧ (s.gauges.headBlind = false → t.gauges.headBlind = true →
                FlagUp .headBlind t ∧ EventTakenByAll .headBlind s t))
        ∧ (s.loader.station = .checking → (∀ p : PumpId, s.pumps[p].state ≠ .offline) → StartedUp s t)
        ∧ (s.loader.station = .checking → (∃ p : PumpId, s.pumps[p].state = .offline) →
            t.loader = { s.loader with sampled := true } ∧ t.plans = s.plans ∧ t.sequencer = s.sequencer))

/-- A SAMPLE of RUNNING charges each GRANTED bay's sample volume in full to its holder's account, to the station total and to
the lifted volume of the granted portion (R47, R50 to R52, R73), and then the station is exhausted exactly when that total has
reached the governing allowance (R57). When the condition becomes set every grant closes, EXHAUSTED is raised and taken (R58,
R97); when it becomes clear EXHAUSTION_END is taken (R58). The charge to the grant's own volume is in
`Obligations.SampleStopsDryAndBlindPumps`. -/
def Obligations.SampleChargesHoldersAndJudgesExhaustion : Prop :=
  ∀ (river bay0 bay1 bay2 : LoopInput) (s : State), s.loader.station = .running → AccountsSound s →
    Completes (exec (.sample river bay0 bay1 bay2) s) fun t =>
      (∀ d : DistrictId,
        t.accounts.districts[d].liftedPhase = s.accounts.districts[d].liftedPhase + ((allBays.filter fun b =>
            (s.grantOf b).map Grant.district == some d).map fun b => t.meter.volumes[b]).sum
        ∧ t.accounts.districts[d].liftedReset = min 281474976710655 (s.accounts.districts[d].liftedReset + ((allBays.filter
            fun b => (s.grantOf b).map Grant.district == some d).map fun b => t.meter.volumes[b]).sum)
        ∧ t.accounts.districts[d].credit = max (-100000000) (s.accounts.districts[d].credit - (((allBays.filter
            fun b => (s.grantOf b).map Grant.district == some d).map fun b => t.meter.volumes[b]).sum : Nat)))
      ∧ t.accounts.station = s.accounts.station + ((allBays.filter fun b => (s.grantOf b).isSome).map fun b =>
          t.meter.volumes[b]).sum
      ∧ t.accounts.exhausted = decide (s.governing.allowance * 1000 ≤ t.accounts.station)
      ∧ t.loader = { s.loader with sampled := true } ∧ t.plans = s.plans ∧ t.sequencer = s.sequencer
      ∧ (∀ d : DistrictId, ∀ q ∈ t.orders.districts[d].queue, ∃ p ∈ s.orders.districts[d].queue,
          q.tag = p.tag ∧ q.bay = p.bay ∧ q.target = p.target
          ∧ q.lifted = p.lifted + (if (s.grantOf p.bay).map (fun g => (g.district, g.tag)) = some (d, p.tag) then
              t.meter.volumes[p.bay] else 0))
      ∧ (s.accounts.exhausted = false → t.accounts.exhausted = true →
          (∀ b : BayId, t.grantOf b = none) ∧ FlagUp .exhausted t ∧ EventTakenByAll .exhausted s t)
      ∧ (s.accounts.exhausted = true → t.accounts.exhausted = false → EventTakenByAll .exhaustionEnd s t)

/-- After a SAMPLE of RUNNING no pump is STARTING or LIFTING whose bay stands at or below its stop level (R117), whose flow is
0 or absent (R118), or while the station is head-blind (R119). And the tests of R92 at a GRANTED bay whose portion is IN
SERVICE, after the charge: the portion ends COMPLETE at its target, else DRAINED (R93; not at a sample after the first of
head-blind, R101, the model's choice in notes/assumptions/25.md), else it stays, PENDING when exhaustion or the failed bay gauge
closes the grant (R96 to R98). A portion that has ended hands the bay over to a candidate or leaves it FREE (R90, R91). At the
run cap the grant is renewed, or passes to a candidate whose credit is no less (R94). Otherwise it stands with the charge on its
volume and its new mark. A FREE bay has its running and priming pumps stopped, gates are open only under a portion that names
them, and a pump that no rule of R116 stops runs on. The shed takes the latest started of the pumps that still run out of STARTING
and LIFTING when their flows exceed the ceiling plus the margin, and no other of them (R120). An IDLE pump of a bay that is GRANTED
at or above its start level is called to PRIMING, and with FEEDER OK true none is left IDLE there (R107, R116). -/
def Obligations.SampleStopsDryAndBlindPumps : Prop :=
  ∀ (river bay0 bay1 bay2 : LoopInput) (s : State), s.loader.station = .running →
    Completes (exec (.sample river bay0 bay1 bay2) s) fun t =>
      (∀ p : PumpId, t.pumps[p].state.counts = true →
        t.belowStop (bayOf p) = false ∧ 0 < (t.meter.flows[p]).getD 0 ∧ t.gauges.headBlind = false)
      ∧ (PortionsNamed s → ServingPumpsSound s → FaultRecordsSound s →
          ∀ b : BayId, ∀ g ∈ s.grantOf b, ∀ p ∈ s.portion g.district g.tag b, p.state = .inService →
            let volume := t.meter.volumes[b]
            let lifts : Bool := (pumpsOf b).any fun x => s.pumps[x].state == .lifting
            let complete : Prop := p.target * 1000 ≤ p.lifted + volume
            let drained : Prop := ¬complete
              ∧ (match t.bayLevel b with | some x => x ≤ s.settings.bays[b].stopLevel | none => False)
              ∧ (∀ i ∈ p.intakes, s.gates[i].state = .opened) ∧ g.lifting = true
              ∧ ¬(s.gauges.headBlind = true ∧ t.gauges.headBlind = true)
            let begun : Prop := s.accounts.exhausted = false ∧ t.accounts.exhausted = true
            let failed : Prop := t.gauges.records[gaugeOf b].condition = .failed
            let lost : Prop := s.service b ≠ .outOfService ∧ failed
            let served : Prop := s.service b ≠ .outOfService ∧ ¬failed ∧ t.accounts.exhausted = false
            let cap : Prop := 0 < s.governing.runCap ∧ s.governing.runCap * 1000 ≤ g.volume + volume
            let room : Prop := s.arbiters.counter + 100 ≤ 4294967295
            let same : Grant → Prop := fun h => h.district = g.district ∧ h.tag = g.tag
            let handed : Grant → Prop := fun h =>
              h.volume = 0 ∧ h.lifting = false ∧ (room → s.arbiters.counter ≤ h.number)
                ∧ ∃ q ∈ s.candidate h.district b, q.tag = h.tag
            (complete → EndedAs g.district g.tag b p.target .complete (p.lifted + volume) t)
            ∧ (drained → EndedAs g.district g.tag b p.target .drained (p.lifted + volume) t)
            ∧ (¬complete → ¬drained → ∃ q ∈ t.orders.districts[g.district].queue,
                q.tag = g.tag ∧ q.bay = b ∧ q.lifted = p.lifted + volume
                ∧ q.state = if ∃ h ∈ t.grantOf b, same h then .inService else .pending)
            ∧ (complete ∨ drained → ∀ h ∈ t.grantOf b, ¬same h)
            ∧ (begun ∨ lost → t.grantOf b = none)
            ∧ (complete ∨ drained → served →
                ((∃ x : DistrictId, (s.candidate x b).isSome = true) → ∃ h ∈ t.grantOf b, handed h)
                ∧ ((∀ x : DistrictId, s.candidate x b = none) → t.grantOf b = none))
            ∧ (¬complete → ¬drained → ¬begun → ¬lost → ¬cap → ∃ h ∈ t.grantOf b,
                same h ∧ h.volume = g.volume + volume ∧ h.lifting = lifts ∧ (room → h.number = g.number))
            ∧ (¬complete → ¬drained → served → cap → ∃ h ∈ t.grantOf b,
                (same h ∧ h.volume = 0 ∧ h.lifting = lifts ∧ (room → h.number = g.number)
                  ∧ ∀ x : DistrictId, ∀ q ∈ s.candidate x b, x ≠ g.district → (q.cls = .urgent → p.cls = .urgent)
                    ∧ (q.cls = .urgent ∨ p.cls ≠ .urgent →
                        t.accounts.districts[x].credit ≤ t.accounts.districts[g.district].credit))
                ∨ (¬same h ∧ handed h
                  ∧ ∀ q ∈ s.candidate h.district b, (p.cls = .urgent → q.cls = .urgent)
                    ∧ (p.cls = .urgent ∨ q.cls ≠ .urgent →
                        t.accounts.districts[g.district].credit ≤ t.accounts.districts[h.district].credit)))
            ∧ (t.grantOf b = none → ∀ x : PumpId, bayOf x = b → t.pumps[x].state.counts = false ∧ t.pumps[x].state ≠ .priming)
            ∧ (∀ i ∈ p.intakes, t.gates[i].state = .opened ∨ t.gates[i].state = .opening →
                ∃ x : BayId, t.serviceNames x i = true)
            ∧ (∀ h ∈ t.grantOf b, ¬same h → ∀ q ∈ t.portion h.district h.tag b, ∀ i ∈ q.intakes, i ∉ p.intakes →
                (∀ x : BayId, x ≠ b → s.serviceNames x i = false) →
                t.gates[i].state = .opened ∨ t.gates[i].state = .opening ∨ t.gates[i].state = .jammed)
            ∧ (∀ x : PumpId, bayOf x = b → s.pumps[x].state.counts = true → (t.grantOf b).isSome = true →
                t.belowStop b = false → 0 < (t.meter.flows[x]).getD 0 → t.gauges.headBlind = false →
                t.flowSum s.countingPumps ≤ s.governing.ceiling + s.settings.shedMargin →
                t.pumps[x].state = s.pumps[x].state))
      ∧ (PortionsNamed s → ServingPumpsSound s → FaultRecordsSound s → RunningPumpsBounded s →
          let running := allPumps.filter fun p => s.pumps[p].state.counts && (t.grantOf (bayOf p)).isSome
            && !t.belowStop (bayOf p) && decide (0 < (t.meter.flows[p]).getD 0) && !t.gauges.headBlind
          let later : PumpId → PumpId → Prop := fun p q => (s.roster.numbers[p]).getD 0 < (s.roster.numbers[q]).getD 0
          let above : Prop := s.governing.ceiling + s.settings.shedMargin < (running.map fun p => (t.meter.flows[p]).getD 0).sum
          ∀ p ∈ running,
            (above → (∀ q ∈ running, q ≠ p → later q p) → t.pumps[p].state.counts = false
              ∧ (s.pins.running[p] = true → t.pumps[p].state = .rundown))
            ∧ ((above → ∃ q ∈ running, later p q) → t.pumps[p].state = s.pumps[p].state))
      ∧ (PortionsNamed s → ServingPumpsSound s → FaultRecordsSound s → s.pins.feederOk = true →
          ∀ p : PumpId, (t.grantOf (bayOf p)).isSome = true → t.aboveStart (bayOf p) = true →
            t.pumps[p].state ≠ .idle ∧ (s.pumps[p].state = .idle → Called p s t))

/-- The Roster's choices: the pump a consideration starts is a candidate that fits the feeder limit and the ceiling (R111) and
comes before every other such candidate (R110), one is started whenever one fits; and a shed stops one pump, the latest
started of those running, exactly when their summed flow exceeds the ceiling plus the margin (R120). A pump is a candidate
exactly by the eight conditions of R109, with the working start level of R106, and one candidate comes before another by the
three keys of R110. A pump fits exactly when the pumps STARTING or LIFTING are fewer than the feeder limit and their summed flow with
its own is at or below the ceiling of the governing entry. -/
def Obligations.StartAndShedChoices : Prop :=
  ∀ (s : State) (stopped running : List PumpId),
    let counting := allPumps.filter fun p => s.pumps[p].state == .starting || s.pumps[p].state == .lifting
    (∀ q : PumpId, s.fits q = true ↔ counting.length < s.settings.feeder
      ∧ (counting.map fun p => (s.meter.flows[p]).getD 0).sum + (s.meter.flows[q]).getD 0 ≤ s.governing.ceiling)
    ∧ (∀ p ∈ s.pickStart stopped,
      s.isCandidate p = true ∧ p ∉ stopped ∧ s.countingPumps.length < s.settings.feeder
      ∧ s.flowSum s.countingPumps + (s.meter.flows[p]).getD 0 ≤ s.governing.ceiling
      ∧ ∀ q : PumpId, q ≠ p → s.isCandidate q = true → s.fits q = true → q ∉ stopped → s.startsBefore p q = true)
    ∧ (s.pickStart stopped = none → ∀ q : PumpId, s.isCandidate q = true → q ∉ stopped → s.fits q = false)
    ∧ (s.shedPump running = [] ↔ s.flowSum running ≤ s.governing.ceiling + s.settings.shedMargin ∨ running = [])
    ∧ (∀ p ∈ s.shedPump running,
        s.shedPump running = [p] ∧ p ∈ running
        ∧ ∀ q ∈ running, (s.roster.numbers[q]).getD 0 ≤ (s.roster.numbers[p]).getD 0)
    ∧ (∀ p : PumpId, s.isCandidate p = true ↔
        s.loader.station = .running ∧ s.pumps[p].state = .primed ∧ (s.grantOf (bayOf p)).isSome = true
        ∧ (∃ x ∈ s.bayLevel (bayOf p),
            (if s.settings.bays[bayOf p].startLevel ≤ s.settings.bays[bayOf p].stopLevel then
              s.settings.bays[bayOf p].stopLevel + 100 else s.settings.bays[bayOf p].startLevel) ≤ x)
        ∧ (s.gauges.heads[bayOf p]).isSome = true ∧ (∃ n ∈ s.meter.flows[p], 0 < n)
        ∧ s.gauges.headBlind = false ∧ s.accounts.exhausted = false)
    ∧ (∀ p q : PumpId, ∀ g ∈ s.grantOf (bayOf p), ∀ h ∈ s.grantOf (bayOf q), s.startsBefore p q = true ↔
        g.number < h.number ∨ (g.number = h.number ∧ (s.meter.runSeconds[p] < s.meter.runSeconds[q]
          ∨ (s.meter.runSeconds[p] = s.meter.runSeconds[q] ∧ p < q))))

/-! ## The Phase Sequencer's timers -/

/-- SEQUENCER_SECOND counts in TRACKING mode while RUNNING, saturating, and holds the count at 0 otherwise (R11).
DURATION_EXPIRY makes a boundary into the next phase (R14); where the duration has not expired it does not happen (R15). -/
def Obligations.SequencerTimersComplete : Prop :=
  ∀ (s : State),
    (Completes (exec .sequencerSecond s) fun t =>
      OnlyTouches [.sequencer] s t
      ∧ t.sequencer =
        { s.sequencer with
          elapsed :=
            if s.loader.station = .running ∧ s.sequencer.mode = .tracking then min 4294967295 (s.sequencer.elapsed + 1)
            else 0 })
    ∧ (s.loader.station = .running → s.sequencer.mode = .tracking → s.sequencer.phase + 1 < s.activePlan.entries.length →
        s.currentEntry.duration ≠ 0 → s.currentEntry.duration * 60 ≤ s.sequencer.elapsed →
        Completes (exec .durationExpiry s) fun t => BoundaryMade (s.sequencer.phase + 1) s.plans s t)
    ∧ (¬s.durationExpired → exec .durationExpiry s = .next s)

/-! ## River notices -/

/-- A PLAN the River Port acts on is written, clamped, into the inactive bank and answered DONE, or rejected with
PLAN_REJECTED and answered REJECTED; nothing else changes (R4 to R6). It is rejected when its phase count lies outside 1 to 4
or its body does not hold that many entries; the entries stored are those sent, twelve bytes each by Table 9-6, with their clamped fields held to range (R5).
That a body too short to hold a phase count is rejected in the same way is the model's inference (notes/assumptions/14.md). -/
def Obligations.PlanNoticeIsStagedOrRejected : Prop :=
  ∀ (body : List Byte) (dest : Destination) (s : State), Heard s body dest →
    Completes (exec (.plan body) s) fun t =>
      OnlyTouches [.plans, .river] s t
      ∧ (match body.drop 2 with
          | n1 :: n0 :: p :: entries =>
            if 1 ≤ p.toNat ∧ p.toNat ≤ 4 ∧ entries.length = 12 * p.toNat then
              ∃ plan : Plan,
                t.plans = { s.plans with banks := s.plans.banks.set s.plans.inactive (some plan) }
                ∧ plan.number = 256 * n1.toNat + n0.toNat ∧ plan.entries.length = p.toNat
                ∧ plan.entries = (readEntries entries).map clampEntry
                ∧ (∀ n : Fin 4, ∀ e ∈ plan.entries[n.val]?,
                    let byte : Nat → Nat := fun k => (entries.getD (12 * n.val + k) 0).toNat
                    e = { duration := min (256 * byte 0 + byte 1) 1440, ceiling := min (256 * byte 2 + byte 3) 20000,
                          allowance := min (16777216 * byte 4 + 65536 * byte 5 + 256 * byte 6 + byte 7) 1000000,
                          weights := #v[byte 8 / 16, byte 8 % 16, byte 9 / 16, byte 9 % 16], runCap := 256 * byte 10 + byte 11 })
                ∧ (∀ e ∈ plan.entries, e.duration ≤ 1440 ∧ e.ceiling ≤ 20000 ∧ e.allowance ≤ 1000000)
                ∧ t.river.flags = s.river.flags ∧ AnswerIs t dest kindPlan .done
            else
              t.plans = s.plans ∧ t.river.flags = s.river.flags ||| StationFlag.planRejected.bit
              ∧ AnswerIs t dest kindPlan .rejected
          | _ =>
            t.plans = s.plans ∧ t.river.flags = s.river.flags ||| StationFlag.planRejected.bit
            ∧ AnswerIs t dest kindPlan .rejected)

/-- A MARK by Table 1-4 in TRACKING mode and by R16 in STEPPED mode: a boundary answered DONE, or dropped with MARK_IGNORED
and answered IGNORED. -/
def Obligations.MarkNoticeFollowsModeAndPolicy : Prop :=
  ∀ (body : List Byte) (dest : Destination) (s : State), Heard s body dest → body.length = 2 →
    Completes (exec (.mark body) s) fun t =>
      if s.sequencer.mode = .stepped ∧ s.sequencer.phase + 1 < s.activePlan.entries.length then
        BoundaryMade (s.sequencer.phase + 1) s.plans s t ∧ AnswerIs t dest kindMark .done
      else if s.sequencer.mode = .stepped ∨ s.activePlan.entries.length ≤ s.sequencer.phase + 1
          ∨ s.currentEntry.duration = 0 ∨ s.sequencer.earlyMark = .restart then
        BoundaryMade 0 (examined s) s t ∧ AnswerIs t dest kindMark .done
      else
        OnlyTouches [.river] s t ∧ t.river.flags = s.river.flags ||| StationFlag.markIgnored.bit
        ∧ AnswerIs t dest kindMark .ignored

/-- A STAGE writes its level, held to ±10,000 mm, with the current second as its time of arrival, and changes neither the
river level source nor the head-blind condition (R33). -/
def Obligations.StageNoticeWritesRecord : Prop :=
  ∀ (b1 b2 hi lo : Byte) (dest : Destination) (s : State), Heard s [b1, b2, hi, lo] dest →
    Completes (exec (.stage [b1, b2, hi, lo]) s) fun t =>
      OnlyTouches [.gauges, .river] s t
      ∧ t.gauges =
        { s.gauges with
          stage := some { level := max (-10000) (min 10000 (hi ++ lo).toInt), arrival := s.second } }
      ∧ t.river.flags = s.river.flags ∧ AnswerIs t dest kindStage .done

/-- An ADOPT addressed to the station swaps a staged plan in with a phase-0 boundary, in both adoption modes, raises
PLAN_ADOPTED and is answered DONE; with nothing staged it is answered NOTHING_STAGED (R7, R9). -/
def Obligations.AdoptNoticeSwapsStagedPlan : Prop :=
  ∀ (body : List Byte) (s : State), Heard s body .station → body.length = 2 →
    Completes (exec (.adopt body) s) fun t =>
      if s.stagedPlan.isSome then
        BoundaryMade 0 (swapped s.plans) s t ∧ t.river.flags &&& StationFlag.planAdopted.bit ≠ 0
        ∧ AnswerIs t .station kindAdopt .done
      else OnlyAnswers s t (some { kind := kindAdopt, outcome := .nothingStaged, sections := [] })

/-- PIN sets the pin to a phase 0 to 3 and is answered DONE, or BAD_TARGET; UNPIN clears it and is answered DONE, or IGNORED
(R18, R19). Neither makes a boundary, and the Roster then holds the ceiling of the governing entry (R20, R115). That is the entry
of the active bank's plan at the current phase without a pin, and with one at the pinned phase held to the plan's last (R17). -/
def Obligations.PinAndUnpinNotices : Prop :=
  ∀ (b1 b2 x : Byte) (s : State),
    (∀ plan ∈ s.plans.banks[s.plans.active],
      let index : Nat :=
        match s.sequencer.pin with
        | none => s.sequencer.phase
        | some p => if p.val < plan.entries.length then p.val else plan.entries.length - 1
      ∀ e ∈ plan.entries[index]?, s.governing = e)
    ∧ (Heard s [b1, b2, x] .station → Completes (exec (.pin [b1, b2, x]) s) fun t =>
      if h : x.toNat < 4 then
        t.sequencer = { s.sequencer with pin := some ⟨x.toNat, h⟩ } ∧ t.roster.heldCeiling = t.governing.ceiling
        ∧ OnlyTouches (.sequencer :: settled) s t
        ∧ (Calm s → t.governing.ceiling = s.roster.heldCeiling → OnlyTouches [.sequencer, .river] s t) ∧ AnswerIs t .station kindPin .done
      else OnlyAnswers s t (some { kind := kindPin, outcome := .badTarget, sections := [] }))
    ∧ (Heard s [b1, b2] .station → Completes (exec (.unpin [b1, b2]) s) fun t =>
      if s.sequencer.pin.isSome then
        t.sequencer = { s.sequencer with pin := none } ∧ t.roster.heldCeiling = t.governing.ceiling
        ∧ OnlyTouches (.sequencer :: settled) s t
        ∧ (Calm s → t.governing.ceiling = s.roster.heldCeiling → OnlyTouches [.sequencer, .river] s t) ∧ AnswerIs t .station kindUnpin .done
      else OnlyAnswers s t (some { kind := kindUnpin, outcome := .ignored, sections := [] }))

/-- A HOLD addressed to the station (R141), pump by number: BAD_TARGET above 5, IGNORED where the flag is set, otherwise DONE
with the flag set and the pump taken toward HELD by its state. The premise `ServingPumpsSound`, here and below, is an invariant. -/
def Obligations.HoldNoticeTakesPumpTowardHeld : Prop :=
  ∀ (b1 b2 x : Byte) (s : State), Heard s [b1, b2, x] .station →
    Completes (exec (.hold [b1, b2, x]) s) fun t =>
      if h : x.toNat < 6 then
        if s.pumps[x.toNat].hold then OnlyAnswers s t (some { kind := kindHold, outcome := .ignored, sections := [] })
        else
          t.pumps[x.toNat].hold = true ∧ OnlyTouches settled s t ∧ AnswerIs t .station kindHold .done
          ∧ (match s.pumps[x.toNat].state with
              | .idle =>
                t.pumps[x.toNat] =
                  { s.pumps[x.toNat] with state := .held, hold := true, timer := .stopped, pulse := none }
              | .priming | .primed =>
                t.pumps[x.toNat] =
                  { s.pumps[x.toNat] with state := .held, hold := true, timer := .stopped, pulse := some 5 }
              | .starting | .lifting =>
                if s.pins.running[x.toNat] then
                  t.pumps[x.toNat] =
                    { s.pumps[x.toNat] with
                      state := .rundown, hold := true, timer := .running s.settings.rundown, pulse := none }
                else
                  s.pumps[x.toNat].noted = [] → t.pumps[x.toNat].state = .held ∧ t.pumps[x.toNat].timer = .stopped
              | .rundown | .fault | .offline | .held =>
                (ServingPumpsSound s → t.pumps[x.toNat] = { s.pumps[x.toNat] with hold := true })
                ∧ (Calm s → OnlyTouches [.pumps, .river] s t ∧ OtherPumpsSame ⟨x.toNat, h⟩ s t))
      else OnlyAnswers s t (some { kind := kindHold, outcome := .badTarget, sections := [] })

/-- A RELEASE addressed to the station (R142): BAD_TARGET, IGNORED where the flag is clear, otherwise DONE with the flag
cleared; a HELD pump enters IDLE, or FAULT with OVERHEAT when HOT is true (R136), and one in RUNDOWN or FAULT stays there. A HOT
pump that alone could have served its bay takes it into service and out again, both reported to the arbiter (R124): BAY_UNSERVED
is taken and no grant stays (R86, R98). -/
def Obligations.ReleaseNoticeReturnsHeldPump : Prop :=
  ∀ (b1 b2 x : Byte) (s : State), Heard s [b1, b2, x] .station → FaultRecordsSound s →
    Completes (exec (.release [b1, b2, x]) s) fun t =>
      if h : x.toNat < 6 then
        if s.pumps[x.toNat].hold then
          t.pumps[x.toNat].hold = false ∧ OnlyTouches settled s t ∧ AnswerIs t .station kindRelease .done
          ∧ (s.pumps[x.toNat].state = .held → s.pins.hot[x.toNat] = false → BackInUse ⟨x.toNat, h⟩ s t)
          ∧ (s.pumps[x.toNat].state = .held → s.pins.hot[x.toNat] = true →
              t.pumps[x.toNat].state = .fault ∧ t.pumps[x.toNat].primary = some .overheat ∧ PumpFaultFlagged s t
              ∧ (LastOfBay ⟨x.toNat, h⟩ s → Unserved (bayOf ⟨x.toNat, h⟩) s t))
          ∧ (s.pumps[x.toNat].state = .rundown ∨ s.pumps[x.toNat].state = .fault →
              (ServingPumpsSound s → t.pumps[x.toNat] = { s.pumps[x.toNat] with hold := false })
              ∧ (Calm s → OnlyTouches [.pumps, .river] s t ∧ OtherPumpsSame ⟨x.toNat, h⟩ s t))
        else OnlyAnswers s t (some { kind := kindRelease, outcome := .ignored, sections := [] })
      else OnlyAnswers s t (some { kind := kindRelease, outcome := .badTarget, sections := [] })

/-- A CLEAR addressed to the station (R134, R140): BAD_TARGET; IGNORED on an empty record; STILL_ACTIVE when no kind can be
removed; otherwise DONE, the removable kinds gone, the rest closed up in their order, and a pump in FAULT with no kind left
sent to HELD or IDLE. START and SUPPLY stay, OVERHEAT stays while HOT is true, STOP while RUNNING is true. -/
def Obligations.ClearNoticeRemovesClearableKinds : Prop :=
  ∀ (b1 b2 x : Byte) (s : State), Heard s [b1, b2, x] .station → FaultRecordsSound s →
    Completes (exec (.clear [b1, b2, x]) s) fun t =>
      if h : x.toNat < 6 then
        let stays : FaultKind → Bool := fun k =>
          k == .start || k == .supply || (k == .overheat && s.pins.hot[x.toNat]) || (k == .stop && s.pins.running[x.toNat])
        if s.pumps[x.toNat].kinds = [] then
          OnlyAnswers s t (some { kind := kindClear, outcome := .ignored, sections := [] })
        else if s.pumps[x.toNat].kinds.filter stays = s.pumps[x.toNat].kinds then
          OnlyAnswers s t (some { kind := kindClear, outcome := .stillActive, sections := [] })
        else
          OnlyTouches settled s t ∧ AnswerIs t .station kindClear .done ∧ t.pumps[x.toNat].hold = s.pumps[x.toNat].hold
          ∧ (s.pumps[x.toNat].state = .rundown →
              t.pumps[x.toNat] = { s.pumps[x.toNat] with noted := s.pumps[x.toNat].noted.filter stays }
              ∧ (Calm s → OnlyTouches [.pumps, .river] s t ∧ OtherPumpsSame ⟨x.toNat, h⟩ s t))
          ∧ (s.pumps[x.toNat].state = .fault →
              match s.pumps[x.toNat].kinds.filter stays with
              | k :: rest =>
                t.pumps[x.toNat] = { s.pumps[x.toNat] with primary := some k, noted := rest }
                ∧ (Calm s → OnlyTouches [.pumps, .river] s t ∧ OtherPumpsSame ⟨x.toNat, h⟩ s t)
              | [] =>
                if s.pumps[x.toNat].hold then t.pumps[x.toNat].state = .held ∧ t.pumps[x.toNat].kinds = []
                else if s.pins.hot[x.toNat] then
                  t.pumps[x.toNat].state = .fault ∧ t.pumps[x.toNat].primary = some .overheat
                else BackInUse ⟨x.toNat, h⟩ s t)
      else OnlyAnswers s t (some { kind := kindClear, outcome := .badTarget, sections := [] })

/-- A GATE CLEAR addressed to the station (R152, R153): BAD_TARGET from 16 on, IGNORED for a gate not JAMMED, otherwise DONE
with the faulted flag cleared and the gate CLOSING (SHUT at once with AT SHUT true), or opened again when the portion in
service on its bay names the intake. -/
def Obligations.GateClearNoticeClosesOrReopens : Prop :=
  ∀ (b1 b2 x : Byte) (s : State), Heard s [b1, b2, x] .station →
    Completes (exec (.gateClear [b1, b2, x]) s) fun t =>
      if h : x.toNat < 16 then
        if s.gates[x.toNat].state = .jammed then
          OnlyTouches [.orders, .gates, .river] s t ∧ AnswerIs t .station kindGateClear .done
          ∧ t.orders = { s.orders with faulted := s.orders.faulted.set x.toNat false }
          ∧ OtherGatesSame ⟨x.toNat, h⟩ s t
          ∧ t.gates[x.toNat] =
            (if (match s.settings.bayMap[x.toNat] with
                | some m => s.serviceNames m.bay ⟨x.toNat, h⟩
                | none => false) then
              if s.pins.atOpen[x.toNat] then { state := .opened, timer := none }
              else { state := .opening, timer := some s.settings.travel }
            else if s.pins.atShut[x.toNat] then { state := .shut, timer := none }
            else { state := .closing, timer := some s.settings.travel })
        else OnlyAnswers s t (some { kind := kindGateClear, outcome := .ignored, sections := [] })
      else OnlyAnswers s t (some { kind := kindGateClear, outcome := .badTarget, sections := [] })

/-- A POLL addressed to the station is answered DONE with the three sections of the station report, composed from the state
then held with the flags as they stood, and every station flag is cleared (R169, R175). The sections have the lengths of Table
10-3, so the longest body is 84 bytes; a STATUS REPORT has 43 (Table 9-4). -/
def Obligations.PollNoticeReportsAndClearsFlags : Prop :=
  ∀ (body : List Byte) (d : DistrictId) (s : State),
    (Heard s body .station → body.length = 2 →
      Completes (exec (.poll body) s) fun t =>
        OnlyTouches [.river] s t ∧ t.river.flags = 0 ∧ t.river.sending = none
        ∧ t.river.answer = some { kind := kindPoll, outcome := .done, sections := s.stationReport })
    ∧ s.stationReport.map List.length = [49, 57, 79] ∧ (s.statusReport d).length = 43

/-- A notice of unknown kind, or of a known kind whose body has not the length of Table 9-8, is answered REJECTED when
addressed to the station and leaves nothing else; a STATION REPLY is dropped whatever its destination (R167). The model's own:
UNKNOWN_NOTICE is so taken with every kind but that of a STATION REPLY, a known one among them (notes/assumptions/19.md), and a
dropped notice discards an answer still held (notes/assumptions/11.md). -/
def Obligations.UnknownNoticesAnsweredRejected : Prop :=
  ∀ (kind : Byte) (body : List Byte) (dest : Destination) (s : State), Heard s body dest →
    (kind ≠ kindStationReply → Completes (exec (.unknownNotice kind body) s) fun t =>
      OnlyAnswers s t
        (if dest = .station then some { kind := kind, outcome := .rejected, sections := [] } else none))
    ∧ (Completes (exec (.stationReplyNotice body) s) fun t => OnlyAnswers s t none)
    ∧ (∀ n ∈ measuredNotices body, body.length ≠ n.2.1 + 2 → Completes (exec n.2.2 s) fun t =>
        OnlyAnswers s t (if dest = .station then some { kind := n.1, outcome := .rejected, sections := [] } else none))

/-- Where a notice is not acted on: in LOADING and while the River Port sends it is lost (R156, R168); in CHECKING and HALTED it
is dropped (R166); RUNNING, one the filter does not accept is dropped (R166), and so is one of the kinds marked STATION that
came by group or ALL (R167). None raises a flag or brings an answer. That a notice so dropped, having come whole, discards an
answer still held is the model's inference (notes/assumptions/11.md). -/
def Obligations.NoticesNotActedOnLeaveNoTrace : Prop :=
  ∀ (kind : Byte) (body : List Byte) (dest : Destination) (c : Instr) (s : State), body.length ≤ 91 →
    (c ∈ allNotices kind body → (s.loader.station = .loading ∨ s.river.sending.isSome = true) → exec c s = .next s)
    ∧ (c ∈ allNotices kind body → (s.loader.station = .checking ∨ s.loader.station = .halted) → s.river.sending = none →
        Completes (exec c s) fun t => OnlyAnswers s t none)
    ∧ (c ∈ allNotices kind body → s.loader.station = .running → s.river.sending = none → s.settings.accepts body = none →
        Completes (exec c s) fun t => OnlyAnswers s t none)
    ∧ (c ∈ stationNotices body → Heard s body dest → dest ≠ .station →
        Completes (exec c s) fun t => OnlyAnswers s t none)

/-- The River Port's answer (R168, R175): its sending begins with the receiver off, an answer whose sending has not begun is
discarded, and after the last notice no answer is held. An answer without sections goes out as one notice with
destination ALL, the station address, the kind answered and the outcome, one with sections as a notice for each. -/
def Obligations.AnswerIsSentOrDiscarded : Prop :=
  ∀ (a : Answer) (s : State), s.river.answer = some a →
    (s.river.sending = none → Completes (exec .stationReplySend s) fun t =>
      OnlyTouches [.river] s t
      ∧ t.river = { s.river with rx := .hunt, sending := some (a.notices s.settings.address) })
    ∧ (s.river.sending = none → Completes (exec .answerDiscard s) fun t =>
      OnlyTouches [.river] s t ∧ t.river = { s.river with answer := none })
    ∧ (s.river.sending.isSome = true → Completes (exec .answerSent s) fun t =>
      OnlyTouches [.river] s t ∧ t.river = { s.river with answer := none, sending := none })
    ∧ (a.sections = [] → a.notices s.settings.address =
        [envelope 0x91 [2, 0, byteOf s.settings.address, a.kind, a.outcome.code]])
    ∧ (a.sections ≠ [] → (a.notices s.settings.address).length = a.sections.length)

/-! ## District frames -/

/-- Frames that the port settles before their kind is read, and those of unknown kind: one whose last byte comes while the port
transmits is lost and leaves nothing (R157, R160); with 3 replies waiting a frame that a REPLY would answer, in CHECKING and HALTED
a QUERY too, leaves nothing but its receiver in HUNT and the last-good pair moved; in CHECKING and HALTED every frame is answered
STARTING or HALTED; in RUNNING one of unknown kind is answered MALFORMED (R161). The model's choices: an operand of the command
says whether the frame's last byte comes now or had come before the transmission, as R163, R164 and R172 speak of frames taken
during one (notes/assumptions/10.md); UNKNOWN_FRAME is so answered with every kind, also 1 to 5, and with tag 0
(notes/assumptions/19.md). -/
def Obligations.FramesAnsweredByThePortAlone : Prop :=
  ∀ (d : DistrictId) (pair : Pair) (arrival : Arrival) (kind : Byte) (body : List Byte) (f : Byte × Instr) (s : State),
    body.length ≤ 91 →
    (f ∈ districtFrames d pair .now kind body → s.ports[d].sending.isSome = true → exec f.2 s = .next s)
    ∧ (f ∈ repliedFrames d pair arrival kind body → s.loader.station ≠ .loading → Received s d arrival →
      3 ≤ s.ports[d].replyCount → Completes (exec f.2 s) fun t => PortBecomes d s t (heardOn s.ports[d] pair))
    ∧ (f ∈ districtFrames d pair arrival kind body → (s.loader.station = .checking ∨ s.loader.station = .halted) →
        Received s d arrival → 3 ≤ s.ports[d].replyCount →
        Completes (exec f.2 s) fun t => PortBecomes d s t (heardOn s.ports[d] pair))
    ∧ (f ∈ districtFrames d pair arrival kind body → s.loader.station = .checking →
        Received s d arrival → s.ports[d].replyCount < 3 → Completes (exec f.2 s) fun t =>
          PortBecomes d s t ((heardOn s.ports[d] pair).join (replyOf pair f.1 (replyTag f.1 body) .starting)))
    ∧ (f ∈ districtFrames d pair arrival kind body → s.loader.station = .halted →
        Received s d arrival → s.ports[d].replyCount < 3 → Completes (exec f.2 s) fun t =>
          PortBecomes d s t ((heardOn s.ports[d] pair).join (replyOf pair f.1 (replyTag f.1 body) .halted)))
    ∧ (Admitted s d arrival body → Completes (exec (.unknownFrame d ⟨pair, arrival⟩ kind body) s) fun t =>
        PortBecomes d s t ((heardOn s.ports[d] pair).join (replyOf pair kind 0 .malformed)))

/-- The checks of Table 4-2 in their order (R63 to R65, R68): the first row that holds refuses the order; an order that passes
them all is accepted. Row 9 counts one order and as many portions as the split makes. A body of fewer than five bytes is
MALFORMED, after PORT_DISABLED (R64). `statuses` holds for each intake the first status of R66 that holds, DUPLICATE where the
number stands earlier with OK, and `kept` the intakes with OK, in the order given. -/
def Obligations.LiftChecksFollowTheTable : Prop :=
  ∀ (d : DistrictId) (tag cls t1 t0 n : Byte) (rest : List Byte) (s : State),
    let judged := s.judgeLift d (tag :: cls :: t1 :: t0 :: n :: rest)
    let numbers := rest.map BitVec.toNat
    let entry : Nat → Option (IntakeId × MapEntry) := fun k =>
      if h : k < 16 then (s.settings.bayMap[k]).map fun m => (⟨k, h⟩, m) else none
    let first := entry (numbers.headD 0)
    let statuses := (s.decodeIntakes d [] numbers).1
    let kept := (s.decodeIntakes d [] numbers).2
    let x := s.orders.districts[d]
    (∀ short : List Byte, short.length < 5 →
      s.judgeLift d short = .refused (if s.settings.districts[d].enabled then .malformed else .portDisabled))
    ∧ statuses.length = numbers.length
    ∧ (∀ k : Fin 8, ∀ y ∈ numbers[k.val]?, statuses[k.val]? = some
        (match entry y with
          | none => .unmapped
          | some (i, m) =>
            if s.orders.faulted[i] = true then .faulted
            else if m.owners[d] = false then .notOwner
            else if ∃ j : Fin 8, j < k ∧ numbers[j.val]? = some y ∧ statuses[j.val]? = some .ok then .duplicate
            else .ok))
    ∧ kept = (numbers.zip statuses).filterMap (fun z =>
        if z.2 = IntakeStatus.ok then (entry z.1).map fun e => (e.1, e.2.bay) else none)
    ∧ if s.settings.districts[d].enabled = false then judged = .refused .portDisabled
    else if ¬(1 ≤ n.toNat ∧ n.toNat ≤ 8 ∧ rest.length = n.toNat ∧ (cls = 0 ∨ cls = 1)) then judged = .refused .malformed
    else if 256 * t1.toNat + t0.toNat = 0 then judged = .refused .volumeZero
    else if cls = 1 ∧ s.settings.districts[d].critical = false then judged = .refused .classDenied
    else if ∃ o ∈ x.table, o.tag = tag then judged = .refused .tagInUse
    else
      match first with
      | none => judged = .refused .unsupported
      | some (i, m) =>
        if m.owners[d] = false then judged = .refused .notOwner
        else if s.orders.faulted[i] = true then judged = .refused .intakeFault
        else if 4 < x.table.length + 1 ∨ 8 < x.queue.length + (baysInOrder kept).length then judged = .refused .queueFull
        else
          judged =
            .accepted
              { tag := tag, cls := if cls = 1 then .urgent else .routine, target := 256 * t1.toNat + t0.toNat,
                bays := baysInOrder kept }
              (splitOrder tag (if cls = 1 then .urgent else .routine) (256 * t1.toNat + t0.toNat) kept)
              statuses

/-- A LIFT the port hands on: a refused one leaves only its REPLY (R63); an accepted one enters its order and, at the tail of
the queue, its portions, is answered with its statuses, and starts a grant on each FREE and serviceable bay on which a PENDING
portion joined, unless the station is exhausted (R69, R87): the winner IN SERVICE, its intakes opened, GRANT_START at its port,
the rotation pointer at it, and the bay's IDLE pumps called above the start level (R88, R107). A GRANTED bay keeps its grant. The
premises `ServingPumpsSound` and `PortionsNamed` are invariants. Here and below a frame handed on may have come before a transmission
that is under way (`Admitted`, the model's choice of operand, notes/assumptions/10.md). -/
def Obligations.LiftFrameIsRefusedOrEntered : Prop :=
  ∀ (d : DistrictId) (pair : Pair) (arrival : Arrival) (body : List Byte) (s : State), Admitted s d arrival body →
    Completes (exec (.lift d ⟨pair, arrival⟩ body) s) fun t =>
      match s.judgeLift d body with
      | .refused o =>
        PortBecomes d s t ((heardOn s.ports[d] pair).join (replyOf pair kindLift (body.headD 0) o))
      | .accepted o ps xs =>
        OnlyTouches settled s t
        ∧ (t.orders.districts[d].table = s.orders.districts[d].table ++ [o])
        ∧ (t.orders.districts[d].queue.map (fun p => { p with state := .pending }) =
            (s.orders.districts[d].queue ++ ps).map fun p => { p with state := .pending })
        ∧ TxEntry.reply
              { pair := pair, kind := kindLift, tag := o.tag, statuses := xs,
                outcome := if ∀ x ∈ xs, x = IntakeStatus.ok then .accepted else .acceptedPartial }
            ∈ t.ports[d].queue
        ∧ (ServingPumpsSound s → ∀ p ∈ ps, p.state = .pending → s.grantOf p.bay = none →
            s.service p.bay = .serviceable → s.accounts.exhausted = false → (t.grantOf p.bay).isSome = true)
        ∧ (PortionsNamed s → ServingPumpsSound s →
            (∀ p ∈ ps, p.state = .pending → s.grantOf p.bay = none → s.service p.bay = .serviceable →
              s.accounts.exhausted = false → GrantStarted p.bay (s.enterOrder d o ps) s t)
            ∧ ∀ b : BayId, ∀ g ∈ s.grantOf b, GrantStands g b t)

/-- The split of a target (R67, R68): one portion for each bay of the kept list, by first appearance; each takes the floored
share of its bay, the first takes the remainder as well, and the targets sum to the order's target. A portion with target 0 is
ENDED COMPLETE from the start. -/
def Obligations.SplitSharesTheWholeTarget : Prop :=
  ∀ (tag : Byte) (cls : OrderClass) (v : Nat) (kept : List (IntakeId × BayId)), kept ≠ [] →
    ((splitOrder tag cls v kept).map Portion.target).sum = v
    ∧ (splitOrder tag cls v kept).map Portion.bay = baysInOrder kept
    ∧ (baysInOrder kept).Nodup
    ∧ (∀ p ∈ (splitOrder tag cls v kept).drop 1, p.target = v * (kept.countP fun k => k.2 == p.bay) / kept.length)
    ∧ (∀ p ∈ (splitOrder tag cls v kept).head?,
        v * (kept.countP fun k => k.2 == p.bay) / kept.length ≤ p.target
        ∧ p.target ≤ v * (kept.countP fun k => k.2 == p.bay) / kept.length + 2)
    ∧ (∀ p ∈ splitOrder tag cls v kept,
        p.intakes = (kept.filter fun k => k.2 == p.bay).map Prod.fst ∧ p.lifted = 0
        ∧ p.state = if p.target = 0 then .ended .complete else .pending)

/-- A WITHDRAW the port hands on (R77): PORT_DISABLED, MALFORMED or UNKNOWN_TAG with no other effect, or ACCEPTED: every
portion of the order is ENDED, the accounts are untouched, and the order leaves with its ORDER DONE queued when fewer than 4
wait (R76). That frame, queued or that of a FINISHED order, carries WITHDRAWN with the litres lifted for each portion that had not
ended and its own outcome for one that had (R77, R78), and no bay stays granted to the order (R99). For `Admitted` see
notes/assumptions/10.md. -/
def Obligations.WithdrawFrameEndsTheOrder : Prop :=
  ∀ (d : DistrictId) (pair : Pair) (arrival : Arrival) (body : List Byte) (s : State), Admitted s d arrival body →
    Completes (exec (.withdraw d ⟨pair, arrival⟩ body) s) fun t =>
      let refused : ReplyOutcome → Prop := fun o =>
        PortBecomes d s t ((heardOn s.ports[d] pair).join (replyOf pair kindWithdraw (body.headD 0) o))
      if s.settings.districts[d].enabled = false then refused .portDisabled
      else if body.length ≠ 1 then refused .malformed
      else if s.orders.districts[d].isOpen (body.headD 0) = false then refused .unknownTag
      else
        OnlyTouches settled s t
        ∧ replyOf pair kindWithdraw (body.headD 0) .accepted ∈ t.ports[d].queue
        ∧ (∀ p ∈ t.orders.districts[d].queue, p.tag = body.headD 0 → p.isEnded = true)
        ∧ (s.ports[d].doneCount < 4 →
            (∀ o ∈ t.orders.districts[d].table, o.tag ≠ body.headD 0)
            ∧ ∃ f : DoneFrame, TxEntry.orderDone f ∈ t.ports[d].queue ∧ f.tag = body.headD 0)
        ∧ (PortionsNamed s →
            let whole : DoneFrame → Prop := fun f => f.tag = body.headD 0
              ∧ ∀ p ∈ s.orders.districts[d].queue, p.tag = body.headD 0 →
                { bay := p.bay, target := p.target, lifted := p.lifted,
                  outcome := match p.state with
                    | .ended x => x
                    | .pending | .inService => .withdrawn } ∈ f.portions
            (s.ports[d].doneCount < 4 → ∃ f : DoneFrame, TxEntry.orderDone f ∈ t.ports[d].queue ∧ whole f)
            ∧ (4 ≤ s.ports[d].doneCount → ∃ f ∈ t.orders.districts[d].finished, whole f)
            ∧ ((∀ b : BayId, ∀ g ∈ s.grantOf b, g.district = d → g.tag = body.headD 0 →
                ∃ p ∈ s.portion d g.tag b, p.isEnded = false) →
              ∀ b : BayId, ∀ g ∈ t.grantOf b, g.district = d → g.tag ≠ body.headD 0))

/-- A QUERY (R161, R163, R172): MALFORMED with a body that is not empty, PORT_DISABLED where the district is not enabled; otherwise
the STATUS REPORT entry that waits is marked for its pair where it stands, while a STATUS REPORT is in transmission one is owed,
marked for its pair, and else one joins at the tail. That needs no reply, so it is done also with 3 replies waiting, where a QUERY
that only a REPLY could answer is discarded (R161, check 1). An owed report joins when the transmission ends, marked so (R171,
R172). A QUERY is taken during a transmission when its last byte had come before that began (the model's choice of operand,
notes/assumptions/10.md). -/
def Obligations.QueryFrameIsAnsweredByTheReport : Prop :=
  ∀ (d : DistrictId) (pair : Pair) (arrival : Arrival) (body : List Byte) (s : State),
    (s.loader.station = .running → Received s d arrival → body.length ≤ 91 →
      Completes (exec (.query d ⟨pair, arrival⟩ body) s) fun t =>
        if (body ≠ [] ∨ s.settings.districts[d].enabled = false) ∧ 3 ≤ s.ports[d].replyCount then
          PortBecomes d s t (heardOn s.ports[d] pair)
        else if body ≠ [] then
          PortBecomes d s t ((heardOn s.ports[d] pair).join (replyOf pair kindQuery 0 .malformed))
        else if s.settings.districts[d].enabled = false then
          PortBecomes d s t ((heardOn s.ports[d] pair).join (replyOf pair kindQuery 0 .portDisabled))
        else if s.ports[d].waiting.any TxEntry.isReport = true then
          PortBecomes d s t
            { heardOn s.ports[d] pair with
              queue := s.ports[d].inTransmission
                ++ s.ports[d].waiting.map fun e => if e.isReport then .report (some pair) else e }
        else if s.ports[d].inTransmission.any TxEntry.isReport = true then
          PortBecomes d s t { heardOn s.ports[d] pair with owes := true, owedPair := some pair }
        else PortBecomes d s t ((heardOn s.ports[d] pair).join (.report (some pair))))
    ∧ (s.ports[d].sending.isSome = true → s.ports[d].inTransmission.any TxEntry.isReport = true → s.ports[d].owes = true →
        Completes (exec (.transmitEnd d) s) fun t =>
          PortBecomes d s t
            { s.ports[d] with
              queue := s.ports[d].waiting ++ [.report s.ports[d].owedPair], sending := none, owes := false, owedPair := none })

/-- A SET REPORT (R161, R162): MALFORMED with a body of another length or an interval above 3,600 s; otherwise the port stores
mask bits 0 to 9 and the interval, restarts or stops the timer, keeps its pending flags, and answers ACCEPTED. That a disabled
port is judged before the interval is the model's inference (notes/assumptions/14.md); for `Admitted` see notes/assumptions/10.md. -/
def Obligations.SetReportFrameStoresMaskAndInterval : Prop :=
  ∀ (d : DistrictId) (pair : Pair) (arrival : Arrival) (body : List Byte) (s : State), Admitted s d arrival body →
    Completes (exec (.setReport d ⟨pair, arrival⟩ body) s) fun t =>
      let answered : Port → ReplyOutcome → Prop := fun q o =>
        PortBecomes d s t (q.join (replyOf pair kindSetReport 0 o))
      match body with
      | [m1, m0, i1, i0] =>
        if s.settings.districts[d].enabled = false then answered (heardOn s.ports[d] pair) .portDisabled
        else if 3600 < (i1 ++ i0).toNat then answered (heardOn s.ports[d] pair) .malformed
        else
          answered
            { heardOn s.ports[d] pair with
              mask := (m1 ++ m0) &&& 0x03FF, interval := (i1 ++ i0).toNat,
              timer := if (i1 ++ i0).toNat = 0 then none else some (i1 ++ i0).toNat } .accepted
      | _ => answered (heardOn s.ports[d] pair) .malformed

/-- A PORT RESET (R80, R100, R165) of an enabled district: its orders and portions are gone and no ORDER DONE waits for them,
it holds no bay, mask and interval are those of the image with the timer restarted, an ACCEPTED reply is queued, and no
account changes. The premises of that part say that the district's grants have their portions and that its queue is sound. The
pending flags are cleared and no report is owed (step 3 of R165): of the flags only what the closes of its grants raise after
that may stand, PUMP_FAULT or BAY_UNSERVED, and none where the pumps and their records are sound and no bay the district holds is
out of service, as R98 leaves none. With a body the answer is
MALFORMED, and on a port that is not enabled PORT_DISABLED (R161). For `Admitted` see notes/assumptions/10.md. -/
def Obligations.PortResetFrameClearsTheDistrict : Prop :=
  ∀ (d : DistrictId) (pair : Pair) (arrival : Arrival) (body : List Byte) (s : State),
    (Admitted s d arrival [] → s.settings.districts[d].enabled = true → QueuesBounded s →
      (∀ b : BayId, ∀ g ∈ s.grantOf b, g.district = d → (s.portion d g.tag b).isSome = true) →
      Completes (exec (.portReset d ⟨pair, arrival⟩ []) s) fun t =>
        OnlyTouches settled s t
        ∧ t.orders.districts[d] = { table := [], queue := [], finished := [] }
        ∧ (∀ b : BayId, ∀ g ∈ t.grantOf b, g.district ≠ d)
        ∧ (∀ e ∈ t.ports[d].waiting, e.isDone = false)
        ∧ replyOf pair kindPortReset 0 .accepted ∈ t.ports[d].queue
        ∧ t.ports[d].inTransmission = s.ports[d].inTransmission ∧ t.ports[d].sending = s.ports[d].sending
        ∧ t.ports[d].lastGood = pair ∧ t.ports[d].mask = s.settings.districts[d].mask &&& 0x03FF
        ∧ t.ports[d].interval = s.settings.districts[d].interval
        ∧ (t.ports[d].timer =
          if s.settings.districts[d].interval = 0 then none else some s.settings.districts[d].interval)
        ∧ t.ports[d].flags &&& 0xFEBF = 0
        ∧ (ServingPumpsSound s → FaultRecordsSound s →
            (∀ b : BayId, ∀ g ∈ s.grantOf b, g.district = d → s.service b ≠ .outOfService) →
            t.ports[d].flags = 0 ∧ t.ports[d].owes = false))
    ∧ (Admitted s d arrival body → body ≠ [] → Completes (exec (.portReset d ⟨pair, arrival⟩ body) s) fun t =>
        PortBecomes d s t ((heardOn s.ports[d] pair).join (replyOf pair kindPortReset 0 .malformed)))
    ∧ (Admitted s d arrival [] → s.settings.districts[d].enabled = false → Completes (exec (.portReset d ⟨pair, arrival⟩ []) s) fun t =>
        PortBecomes d s t ((heardOn s.ports[d] pair).join (replyOf pair kindPortReset 0 .portDisabled)))

/-! ## Receivers and transmission -/

/-- The receivers (R157, R158): a discarded frame and a gap in HEADER or BODY bring the receiver to HUNT; in HUNT a start
marker takes it to HEADER, and the length and kind on to BODY, or back to HUNT when the length is above 91. Nothing else
changes, and nothing is received in LOADING (R156) or while the port transmits. -/
def Obligations.ReceiverCommandsMoveOneReceiver : Prop :=
  ∀ (rx : Receiver) (length kind : Byte) (s : State),
    let only : RxState → State → Prop := fun x t =>
      t.rxOf rx = x ∧ (∀ other : Receiver, other ≠ rx → t.rxOf other = s.rxOf other)
      ∧ OnlyTouches [.ports, .river] s t ∧ { t.river with rx := .hunt } = { s.river with rx := .hunt }
      ∧ (∀ d : DistrictId, { t.ports[d] with rxA := .hunt, rxB := .hunt } = { s.ports[d] with rxA := .hunt, rxB := .hunt })
    (Completes (exec (.frameDiscarded rx) s) fun t => only .hunt t)
    ∧ (Completes (exec (.frameGapTimeout rx) s) fun t => only .hunt t)
    ∧ (s.loader.station ≠ .loading → s.rxOff rx = false → s.rxOf rx = .hunt →
        (Completes (exec (.startMarkerReceived rx none) s) fun t => only .header t)
        ∧ (Completes (exec (.startMarkerReceived rx (some (length, kind))) s) fun t =>
            only (if 91 < length.toNat then .hunt else .body length kind) t))
    ∧ (s.loader.station = .loading ∨ s.rxOff rx = true → ∀ header : Option (Byte × Byte),
        exec (.startMarkerReceived rx header) s = .next s)

/-- TRANSMIT_START (R160, R164, R172): with nothing in transmission and neither receiver in HEADER or BODY the head of the
queue begins to go out, a reply on the pair of its frame, an ORDER DONE on the last-good pair, a STATUS REPORT on the pair of
its QUERY or the last-good pair; a STATUS REPORT takes the pending flags with it; the entry keeps its place. -/
def Obligations.TransmitStartSendsTheHead : Prop :=
  ∀ (d : DistrictId) (e : TxEntry) (rest : List TxEntry) (s : State), s.loader.station ≠ .loading →
    s.ports[d].queue = e :: rest → s.ports[d].sending = none → s.ports[d].rxA.busy = false → s.ports[d].rxB.busy = false →
    Completes (exec (.transmitStart d) s) fun t =>
      PortBecomes d s t
        { s.ports[d] with
          rxA := .hunt, rxB := .hunt,
          sending := some
            (match e with
              | .reply r => { pair := r.pair, bytes := envelope 0x81 r.body }
              | .orderDone f => { pair := s.ports[d].lastGood, bytes := envelope 0x82 f.body }
              | .report q => { pair := q.getD s.ports[d].lastGood, bytes := envelope 0x83 (s.statusReport d) }),
          flags := match e with
            | .report _ => s.ports[d].flags &&& 0xFC00
            | .reply _ | .orderDone _ => s.ports[d].flags }

/-- TRANSMIT_END (R76, R164, R171): the entry leaves the queue; a report owed joins at the tail; after an ORDER DONE the frame
of the FINISHED order that ended first joins and that order leaves. -/
def Obligations.TransmitEndFreesThePlace : Prop :=
  ∀ (d : DistrictId) (e : TxEntry) (rest : List TxEntry) (s : State), s.ports[d].queue = e :: rest →
    s.ports[d].sending.isSome = true →
    Completes (exec (.transmitEnd d) s) fun t =>
      OnlyTouches [.orders, .ports] s t ∧ OtherPortsSame d s t
      ∧ t.ports[d] =
        { s.ports[d] with
          queue := rest ++ (if s.ports[d].owes then [.report s.ports[d].owedPair] else [])
            ++ (if e.isDone then (s.orders.districts[d].finished.head?.map TxEntry.orderDone).toList else []),
          sending := none, owes := false, owedPair := if s.ports[d].owes then none else s.ports[d].owedPair }
      ∧ (e.isDone = false ∨ s.orders.districts[d].finished = [] → t.orders = s.orders)
      ∧ (∀ f more, e.isDone = true → s.orders.districts[d].finished = f :: more →
          t.orders.districts[d].finished = more ∧ (∀ o ∈ t.orders.districts[d].table, o.tag ≠ f.tag)
          ∧ (∀ p ∈ t.orders.districts[d].queue, p.tag ≠ f.tag))

/-- ALWAYS_REPORT_EXPIRY (R171, R173) of a RUNNING, enabled port with an interval: no flag is set, the timer restarts with the
full interval, and a STATUS REPORT is asked for: merged into one that waits, owed while one goes out, or queued. -/
def Obligations.AlwaysReportExpiryAsksForAReport : Prop :=
  ∀ (d : DistrictId) (s : State), s.loader.station = .running → s.settings.districts[d].enabled = true →
    0 < s.ports[d].interval →
    Completes (exec (.alwaysReportExpiry d) s) fun t =>
      PortBecomes d s t
        { s.ports[d] with
          timer := some s.ports[d].interval,
          queue :=
            if s.ports[d].queue.any TxEntry.isReport then s.ports[d].queue else s.ports[d].queue ++ [.report none],
          owes := s.ports[d].owes
            || (s.ports[d].inTransmission.any TxEntry.isReport && !s.ports[d].waiting.any TxEntry.isReport) }

/-! ## The Roster's and the pumps' timers -/

/-- STAGGER_EXPIRY (R112 to R115) while RUNNING with no start outstanding: the timer stops and one start is considered. With no
candidate that fits nothing is started; otherwise the chosen pump takes the next start sequence number, the timer restarts,
and the pump is STARTING, or LIFTING where RUNNING is already true (R129). -/
def Obligations.StaggerExpiryStartsTheChosenPump : Prop :=
  ∀ (s : State), s.loader.station = .running → s.roster.stagger.isSome = true → s.roster.outstanding = none → Calm s →
    Completes (exec .staggerExpiry s) fun t =>
      OnlyTouches settled s t
      ∧ (match s.pickStart [] with
          | none => t.roster = { s.roster with stagger := none } ∧ OnlyTouches [.roster] s t
          | some p =>
            t.roster.stagger = some s.settings.stagger ∧ t.roster.outstanding = none
            ∧ (s.pins.hot[p] = false → OnlyTouches [.roster, .pumps] s t ∧ OtherPumpsSame p s t)
            ∧ (s.pins.hot[p] = false → s.roster.counter < 4294967295 →
                t.roster.numbers[p] = some s.roster.counter ∧ t.roster.counter = s.roster.counter + 1)
            ∧ (s.pins.hot[p] = false →
                t.pumps[p] =
                  { s.pumps[p] with
                    state := if s.pins.running[p] then .lifting else .starting,
                    timer := if s.pins.running[p] then .stopped else .running s.settings.startConfirm, pulse := none }))

/-- The limits that end in FAULT (R126, R127, R129, R131, R133): self-check with START, prime with PRIME, start confirm with
RUN, rundown with STOP and the noted kinds kept; PUMP_FAULT is signalled. Where RUN and PRIME are concerned the premise
`FaultStands` leaves out the faults that R139 clears in the same event. Of these one is stated beside it: the prime limit in a FREE
bay with READY true, which leaves the pump back in use; its passing through FAULT is reported all the same (R124), so that the last
pump of its bay brings BAY_UNSERVED (R86). The last pump to leave OFFLINE takes the station to
RUNNING when a sample has been announced (R126, R179). -/
def Obligations.LimitExpiriesFaultThePump : Prop :=
  ∀ (p : PumpId) (s : State),
    (s.loader.station = .checking → s.pumps[p].state = .offline → s.pumps[p].timer.isRunning = true →
      s.pins.ready[p] = false → FaultRecordsSound s ∨ FaultStands p s →
      Completes (exec (.selfCheckLimitExpiry p) s) fun t =>
        Faulted p .start s.pumps[p].noted s t ∧ OnlyTouches (.loader :: boundaryBlocks ++ settled) s t
        ∧ (s.loader.sampled = true → (∀ q : PumpId, q ≠ p → s.pumps[q].state ≠ .offline) → StartedUp s t))
    ∧ (s.loader.station = .running → s.pumps[p].state = .priming → FaultStands p s →
        Completes (exec (.primeLimitExpiry p) s) fun t =>
          Faulted p .prime s.pumps[p].noted s t ∧ PumpFaultFlagged s t ∧ OnlyTouches settled s t)
    ∧ (s.loader.station = .running → s.pumps[p].state = .priming → s.grantOf (bayOf p) = none → s.pins.ready[p] = true →
        FaultRecordsSound s → ServingPumpsSound s → Completes (exec (.primeLimitExpiry p) s) fun t =>
          BackInUse p s t ∧ PumpFaultFlagged s t ∧ OnlyTouches settled s t
          ∧ (LastOfBay p s → Unserved (bayOf p) s t))
    ∧ (s.loader.station = .running → s.pumps[p].state = .starting → FaultStands p s →
        Completes (exec (.startConfirmExpiry p) s) fun t =>
          Faulted p .run s.pumps[p].noted s t ∧ PumpFaultFlagged s t ∧ OnlyTouches settled s t)
    ∧ (s.loader.station = .running → s.pumps[p].state = .rundown → s.pins.running[p] = true →
        FaultRecordsSound s ∨ FaultStands p s →
        Completes (exec (.rundownLimitExpiry p) s) fun t =>
          Faulted p .stop s.pumps[p].noted s t ∧ PumpFaultFlagged s t ∧ OnlyTouches settled s t)

/-- PRIME_HOLD_EXPIRY (R128): a PRIMED pump returns to IDLE with BREAK pulsed for 5 s, from where the Roster may call it again
at once. In a GRANTED bay its entry to IDLE has the Roster call every IDLE pump whose bay is GRANTED at or above its start level
(R107). -/
def Obligations.PrimeHoldExpiryReturnsPumpToIdle : Prop :=
  ∀ (p : PumpId) (s : State), s.loader.station = .running → s.pumps[p].state = .primed → s.pins.hot[p] = false →
    Completes (exec (.primeHoldExpiry p) s) fun t =>
      OnlyTouches settled s t ∧ t.pumps[p].state.serves = true
      ∧ (NotCallable p s ∨ s.grantOf (bayOf p) = none →
          t.pumps[p] = { s.pumps[p] with state := .idle, timer := .stopped, pulse := some 5 })
      ∧ (s.pins.feederOk = false ∨ s.grantOf (bayOf p) = none → Calm s → OnlyTouches [.pumps] s t ∧ OtherPumpsSame p s t)
      ∧ ((s.grantOf (bayOf p)).isSome = true → ServingPumpsSound s → IdlePumpsCalled s t)

/-- BREAK_PULSE_END ends the pulse (R123); READY_FALSE and HOT_FALSE change their input and nothing else (R124, R135). And the
outputs of a pump by its state (Table 7-2, R123): RUN in STARTING and LIFTING, PRIME in PRIMING and PRIMED, BREAK in OFFLINE,
RUNDOWN and FAULT and, while its pulse runs, in IDLE and HELD. -/
def Obligations.QuietPumpCommandsComplete : Prop :=
  ∀ (p : PumpId) (s : State),
    ((s.pumps[p].runOut, s.pumps[p].primeOut, s.pumps[p].breakOut) =
      match s.pumps[p].state with
      | .offline | .rundown | .fault => (false, false, true)
      | .idle | .held => (false, false, s.pumps[p].pulse.isSome)
      | .priming | .primed => (false, true, false)
      | .starting | .lifting => (true, false, false))
    ∧ (Completes (exec (.breakPulseEnd p) s) fun t =>
      OnlyTouches [.pumps] s t ∧ OtherPumpsSame p s t ∧ t.pumps[p] = { s.pumps[p] with pulse := none })
    ∧ (Completes (exec (.readyFalse p) s) fun t =>
      OnlyTouches [.pins] s t ∧ t.pins = { s.pins with ready := s.pins.ready.set p false })
    ∧ (Completes (exec (.hotFalse p) s) fun t =>
      OnlyTouches [.pins] s t ∧ t.pins = { s.pins with hot := s.pins.hot.set p false })

/-! ## The pumps' lines -/

/-- READY_TRUE (R126, R139): with the supply present it ends the self-check of CHECKING, for IDLE with a valid curve and for
FAULT with START otherwise; the last pump to leave OFFLINE takes the station to RUNNING when a sample has been announced
(R179). In FAULT in a FREE bay RUN and PRIME leave the record. -/
def Obligations.ReadyTrueEndsSelfCheckOrClears : Prop :=
  ∀ (p : PumpId) (s : State), s.pins.ready[p] = false → FaultRecordsSound s →
    (s.loader.station = .checking → s.pumps[p].state = .offline → s.pins.feederOk = true →
      Completes (exec (.readyTrue p) s) fun t =>
        t.pins = { s.pins with ready := s.pins.ready.set p true }
        ∧ OnlyTouches (.pins :: .loader :: boundaryBlocks ++ settled) s t
        ∧ (if s.loader.sampled = true ∧ ∀ q : PumpId, q ≠ p → s.pumps[q].state ≠ .offline then StartedUp s t
          else t.loader = s.loader ∧ t.plans = s.plans ∧ t.sequencer = s.sequencer)
        ∧ (curveValid s.settings.pumps[p].curve = false →
            t.pumps[p].state = .fault ∧ t.pumps[p].primary = some .start)
        ∧ (curveValid s.settings.pumps[p].curve = true → s.pins.hot[p] = false → BackInUse p s t))
    ∧ (s.loader.station = .running → s.pumps[p].state = .fault → s.grantOf (bayOf p) = none →
        Completes (exec (.readyTrue p) s) fun t =>
          t.pins = { s.pins with ready := s.pins.ready.set p true } ∧ OnlyTouches (.pins :: settled) s t
          ∧ (match s.pumps[p].kinds.filter fun k => k != .run && k != .prime with
              | k :: rest =>
                t.pumps[p] = { s.pumps[p] with primary := some k, noted := rest }
                ∧ (Calm s → OnlyTouches [.pins, .pumps] s t ∧ OtherPumpsSame p s t)
              | [] =>
                if s.pumps[p].hold then t.pumps[p].state = .held ∧ t.pumps[p].kinds = []
                else s.pins.hot[p] = false → BackInUse p s t))

/-- RUNNING_TRUE takes a STARTING pump to LIFTING (R129). RUNNING_FALSE faults a LIFTING pump with RUN (R130) and ends a
rundown: FAULT with a noted OVERHEAT, else HELD, else IDLE (R131). The last pump of its bay to fault so brings BAY_UNSERVED, also
where READY lets the fault clear in the same event (R86, R124), and the bay's grant closes (R98). -/
def Obligations.RunningLineEvents : Prop :=
  ∀ (p : PumpId) (s : State), s.loader.station = .running →
    (s.pins.running[p] = false → s.pumps[p].state = .starting → s.pins.hot[p] = false →
      Completes (exec (.runningTrue p) s) fun t =>
        t.pins = { s.pins with running := s.pins.running.set p true } ∧ OnlyTouches (.pins :: settled) s t
        ∧ t.pumps[p] = { s.pumps[p] with state := .lifting, timer := .stopped, pulse := none }
        ∧ (Calm s → OnlyTouches [.pins, .pumps] s t ∧ OtherPumpsSame p s t))
    ∧ (s.pins.running[p] = true → s.pumps[p].state = .lifting → FaultStands p s →
        Completes (exec (.runningFalse p) s) fun t =>
          t.pins = { s.pins with running := s.pins.running.set p false } ∧ OnlyTouches (.pins :: settled) s t
          ∧ Faulted p .run s.pumps[p].noted s t ∧ PumpFaultFlagged s t)
    ∧ (s.pins.running[p] = true → s.pumps[p].state = .lifting → LastOfBay p s →
        Completes (exec (.runningFalse p) s) fun t =>
          Unserved (bayOf p) s t ∧ PumpFaultFlagged s t)
    ∧ (s.pins.running[p] = true → s.pumps[p].state = .rundown → s.pumps[p].primary = none →
        Completes (exec (.runningFalse p) s) fun t =>
          t.pins = { s.pins with running := s.pins.running.set p false } ∧ OnlyTouches (.pins :: settled) s t
          ∧ (s.pumps[p].noted = [.overheat] → Faulted p .overheat [] s t ∧ PumpFaultFlagged s t)
          ∧ (s.pumps[p].noted = [] → s.pumps[p].hold = true → t.pumps[p].state = .held ∧ t.pumps[p].pulse = none)
          ∧ (s.pumps[p].noted = [] → s.pumps[p].hold = false → s.pins.hot[p] = false → BackInUse p s t))

/-- PRIMED_TRUE takes a PRIMING pump to PRIMED (R127), from where it may be started at once (R115). PRIMED_FALSE sends a PRIMED
pump back to PRIMING with the full prime limit (R128) and faults a STARTING or LIFTING one with RUN (R129, R130). -/
def Obligations.PrimedLineEvents : Prop :=
  ∀ (p : PumpId) (s : State), s.loader.station = .running →
    (s.pins.primed[p] = false → s.pumps[p].state = .priming → s.pins.hot[p] = false →
      Completes (exec (.primedTrue p) s) fun t =>
        t.pins = { s.pins with primed := s.pins.primed.set p true } ∧ OnlyTouches (.pins :: settled) s t
        ∧ (t.pumps[p].state = .primed ∨ t.pumps[p].state.counts = true)
        ∧ (s.roster.stagger.isSome = true →
            t.pumps[p] =
              { s.pumps[p] with state := .primed, timer := .running s.settings.primeHold, pulse := none }
            ∧ (Calm s → OnlyTouches [.pins, .pumps] s t ∧ OtherPumpsSame p s t)))
    ∧ (s.pins.primed[p] = true → s.pumps[p].state = .primed → s.pins.hot[p] = false →
        Completes (exec (.primedFalse p) s) fun t =>
          t.pins = { s.pins with primed := s.pins.primed.set p false } ∧ OnlyTouches (.pins :: settled) s t
          ∧ t.pumps[p] = { s.pumps[p] with state := .priming, timer := .running s.settings.prime, pulse := none }
          ∧ (Calm s → OnlyTouches [.pins, .pumps] s t ∧ OtherPumpsSame p s t))
    ∧ (s.pins.primed[p] = true → s.pumps[p].state.counts = true → FaultStands p s →
        Completes (exec (.primedFalse p) s) fun t =>
          t.pins = { s.pins with primed := s.pins.primed.set p false } ∧ OnlyTouches (.pins :: settled) s t
          ∧ Faulted p .run s.pumps[p].noted s t ∧ PumpFaultFlagged s t)

/-- HOT_TRUE by the pump's state and overheat policy, the rows of R135, while RUNNING; under policy RUNDOWN for a pump whose
RUNNING is true, so that the rundown does not end in the same event, and otherwise the rundown ends at once in FAULT with the
OVERHEAT it noted (R131). The last pump of its bay to fault so brings BAY_UNSERVED and the close of the bay's grant (R86, R98). -/
def Obligations.HotTrueFollowsStateAndPolicy : Prop :=
  ∀ (p : PumpId) (s : State), s.loader.station = .running → s.pins.hot[p] = false → FaultRecordsSound s →
    Completes (exec (.hotTrue p) s) fun t =>
      t.pins = { s.pins with hot := s.pins.hot.set p true } ∧ OnlyTouches (.pins :: settled) s t
      ∧ (match s.pumps[p].state with
          | .offline | .held => t.pumps[p] = s.pumps[p] ∧ (Calm s → OnlyTouches [.pins] s t)
          | .idle | .priming | .primed => Faulted p .overheat [] s t ∧ PumpFaultFlagged s t ∧ (LastOfBay p s → Unserved (bayOf p) s t)
          | .starting | .lifting =>
            PumpFaultFlagged s t
            ∧ (s.settings.pumps[p].overheat = .trip → Faulted p .overheat [] s t ∧ (LastOfBay p s → Unserved (bayOf p) s t))
            ∧ (s.settings.pumps[p].overheat = .rundown → s.pins.running[p] = true →
                t.pumps[p] =
                  { s.pumps[p] with
                    state := .rundown, noted := [.overheat], timer := .running s.settings.rundown, pulse := none })
            ∧ (s.settings.pumps[p].overheat = .rundown → s.pins.running[p] = false → Faulted p .overheat [] s t)
          | .rundown | .fault =>
            if FaultKind.overheat ∈ s.pumps[p].kinds then
              (ServingPumpsSound s → t.pumps[p] = s.pumps[p]) ∧ (Calm s → OnlyTouches [.pins] s t)
            else
              PumpFaultFlagged s t
              ∧ (ServingPumpsSound s → t.pumps[p] = { s.pumps[p] with noted := s.pumps[p].noted ++ [.overheat] })
              ∧ (Calm s → OnlyTouches [.pins, .pumps, .ports, .river] s t ∧ OtherPumpsSame p s t))

/-- FEEDER_OK_FALSE by the pump's state, all rows of R137, in CHECKING (the OFFLINE row, R126) and RUNNING: a PRIMED pump goes
to IDLE unless HOT sends it on (R136); in FAULT the override keeps every kind, but for the RUN and PRIME that R139 clears where
READY is true and the fall has cost the bay its grant. FEEDER_OK_TRUE (R134, R138, R139): SUPPLY leaves the record, which closes
up, with RUN and PRIME clearing in a FREE bay where READY is true; a GRANTED bay is taken to be one that its other pump keeps from
being out of service, as R98 leaves no other. A paused self-check of CHECKING resumes where READY is false
and ends at once where it is true (R126). -/
def Obligations.FeederLineEvents : Prop :=
  ∀ (p : PumpId) (s : State), FaultRecordsSound s →
    (s.pins.feederOk = true → s.isLive →
      Completes (exec .feederOkFalse s) fun t =>
        t.pins = { s.pins with feederOk := false } ∧ OnlyTouches (.pins :: .loader :: boundaryBlocks ++ settled) s t
        ∧ (s.loader.station = .running → OnlyTouches (.pins :: settled) s t)
        ∧ (match s.pumps[p].state with
            | .offline =>
              t.pumps[p] =
                { s.pumps[p] with
                  timer := match s.pumps[p].timer with
                    | .running n => .paused n
                    | .stopped => .stopped
                    | .paused n => .paused n }
            | .idle | .held => t.pumps[p] = s.pumps[p]
            | .primed =>
              s.pins.hot[p] = false →
                t.pumps[p] = { s.pumps[p] with state := .idle, timer := .stopped, pulse := some 5 }
            | .priming | .starting | .lifting | .rundown =>
              Faulted p .supply s.pumps[p].noted s t ∧ PumpFaultFlagged s t
            | .fault =>
              let kept := s.pumps[p].kinds.filter fun k => k != .supply
              let cleared : Prop := s.pins.ready[p] = true ∧ (s.grantOf (bayOf p)).isSome = true ∧ t.grantOf (bayOf p) = none
              t.pumps[p] =
                  { s.pumps[p] with
                    primary := some .supply,
                    noted := if cleared then kept.filter fun k => k != .run && k != .prime else kept }
                ∧ (s.pumps[p].primary ≠ some .supply → PumpFaultFlagged s t)))
    ∧ (s.pins.feederOk = false → s.loader.station = .running →
        Completes (exec .feederOkTrue s) fun t =>
          t.pins = { s.pins with feederOk := true } ∧ OnlyTouches (.pins :: settled) s t
          ∧ (s.pumps[p].primary = some .supply → ServingPumpsSound s →
              ((s.grantOf (bayOf p)).isSome = true → s.service (bayOf p) ≠ .outOfService) →
              match s.pumps[p].noted.filter fun k =>
                  !(s.pins.ready[p] && (s.grantOf (bayOf p)).isNone && (k == .run || k == .prime)) with
              | k :: rest => t.pumps[p] = { s.pumps[p] with primary := some k, noted := rest }
              | [] =>
                if s.pumps[p].hold then t.pumps[p].state = .held ∧ t.pumps[p].kinds = []
                else
                  s.pins.hot[p] = false → t.pumps[p].state.serves = true ∧ t.pumps[p].kinds = []
                    ∧ (s.aboveStart (bayOf p) = false → t.pumps[p].state = .idle)
                    ∧ ((s.grantOf (bayOf p)).isSome = true → IdlePumpsCalled { s with pins := t.pins } t)))
    ∧ (s.pins.feederOk = false → s.loader.station = .checking → s.pumps[p].state = .offline →
        ∀ n : Nat, s.pumps[p].timer = .paused n →
          Completes (exec .feederOkTrue s) fun t =>
            if s.pins.ready[p] = false then t.pumps[p] = { s.pumps[p] with timer := .running n }
            else if curveValid s.settings.pumps[p].curve = false then
              t.pumps[p].state = .fault ∧ t.pumps[p].primary = some .start
            else s.pins.hot[p] = false → t.pumps[p].state.serves = true ∧ t.pumps[p].kinds = [])

/-! ## Gates -/

/-- The limit switches, by the table of R149: each of the four events acts in one gate state and leaves the others; and the drives
by the gate's state, OPEN DRIVE in OPENING and CLOSE DRIVE in CLOSING (Table 8-2, R145). Two choices of the model are in it: the switches act so also while the reset pin is held, of which the rules say nothing (DESIGN CHOICE,
notes/assumptions/28.md), and a level that is named again is taken by the same table (notes/assumptions/8.md). -/
def Obligations.LimitSwitchesFollowTheTable : Prop :=
  ∀ (i : IntakeId) (s : State),
    let only : Pins → Gate → State → Prop := fun pins g t =>
      t.pins = pins ∧ OnlyTouches [.pins, .gates] s t ∧ OtherGatesSame i s t ∧ t.gates[i] = g
    let limit : Option Nat := if s.isLive then some s.settings.travel else none
    ((s.gates[i].openDrive, s.gates[i].closeDrive) =
      match s.gates[i].state with
      | .opening => (true, false)
      | .closing => (false, true)
      | .shut | .opened | .jammed => (false, false))
    ∧ (Completes (exec (.atOpenTrue i) s) fun t =>
      only { s.pins with atOpen := s.pins.atOpen.set i true }
        (if s.gates[i].state = .opening then { state := .opened, timer := none } else s.gates[i]) t)
    ∧ (Completes (exec (.atOpenFalse i) s) fun t =>
      only { s.pins with atOpen := s.pins.atOpen.set i false }
        (if s.gates[i].state = .opened then { state := .opening, timer := limit } else s.gates[i]) t)
    ∧ (Completes (exec (.atShutTrue i) s) fun t =>
      only { s.pins with atShut := s.pins.atShut.set i true }
        (if s.gates[i].state = .closing then { state := .shut, timer := none } else s.gates[i]) t)
    ∧ (Completes (exec (.atShutFalse i) s) fun t =>
      only { s.pins with atShut := s.pins.atShut.set i false }
        (if s.gates[i].state = .shut then { state := .closing, timer := limit } else s.gates[i]) t)

/-- TRAVEL_LIMIT_EXPIRY of a travelling gate whose timer has reached 0 (R62, R79, R146, R150) while RUNNING: the gate is JAMMED with
its timer stopped, the faulted flag is set, GATE_JAMMED is raised and taken by the owners that enable it, no portion naming the intake is left open
with all its intakes faulted, and the accounts stand. In a state whose portions have names of their own (R67) and whose pumps are
sound, every such portion ends GATE_FAULT with the volume it has lifted and its grant closes (R79, R99), by handover or leaving the
bay FREE; a portion that has an intake left, or does not name the jammed one, keeps its lifted volume and, IN SERVICE, its grant,
and one that was PENDING waits on unless it wins a bay that came free. In CHECKING, with no order held yet (R70), the gate is
JAMMED and its flag set, and flag and events wait for RUNNING (R154, R155). With seconds remaining, as after a reversal that was
taken first, or with the timer stopped, the expiry does not happen (R150): the command then changes nothing
(notes/assumptions/6.md). -/
def Obligations.TravelLimitExpiryJamsTheGate : Prop :=
  ∀ (i : IntakeId) (s : State),
    (s.gates[i].timer ≠ some 0 → exec (.travelLimitExpiry i) s = .next s)
    ∧ ((s.gates[i].state = .opening ∨ s.gates[i].state = .closing) → s.gates[i].timer = some 0 →
    (s.loader.station = .running → Completes (exec (.travelLimitExpiry i) s) fun t =>
      OnlyTouches settled s t ∧ t.gates[i] = { state := .jammed, timer := none }
      ∧ t.orders.faulted = s.orders.faulted.set i true
      ∧ t.river.flags &&& StationFlag.gateJammed.bit ≠ 0
      ∧ (∀ d : DistrictId, s.settings.owns i d = true → s.settings.districts[d].enabled = true →
          s.ports[d].mask &&& ReportEvent.gateJammed.bit ≠ 0 → t.ports[d].flags &&& ReportEvent.gateJammed.bit ≠ 0)
      ∧ (PortionsNamed s → ∀ d : DistrictId, ∀ p ∈ t.orders.districts[d].queue, i ∈ p.intakes →
          (∀ j ∈ p.intakes, t.orders.faulted[j] = true) → p.isEnded = true)
      ∧ (PortionsNamed s → ServingPumpsSound s → FaultRecordsSound s →
          ∀ d : DistrictId, ∀ p ∈ s.orders.districts[d].queue, p.isEnded = false →
            let lost : Prop := i ∈ p.intakes ∧ ∀ j ∈ p.intakes, j = i ∨ s.orders.faulted[j] = true
            let holds : Grant → Prop := fun g => g.district = d ∧ g.tag = p.tag
            (lost → EndedAs d p.tag p.bay p.target .gateFault p.lifted t
              ∧ ∀ g ∈ s.grantOf p.bay, holds g → ∀ h ∈ t.grantOf p.bay, ¬holds h)
            ∧ (¬lost → ∃ q ∈ t.orders.districts[d].queue, { q with state := p.state } = p
                ∧ (p.state = .inService → q.state = .inService)
                ∧ (p.state = .pending → q.state = .pending ∨ (q.state = .inService ∧ ∃ h ∈ t.grantOf p.bay, holds h)))
            ∧ (¬lost → ∀ g ∈ s.grantOf p.bay, holds g → GrantStands g p.bay t)))
    ∧ (s.loader.station = .checking → (∃ p : PumpId, s.pumps[p].state = .offline) → Calm s →
        (∀ d : DistrictId, s.orders.districts[d].table = [] ∧ s.orders.districts[d].queue = []) →
        Completes (exec (.travelLimitExpiry i) s) fun t =>
          OnlyTouches [.orders, .gates] s t ∧ OtherGatesSame i s t
          ∧ t.gates[i] = { state := .jammed, timer := none }
          ∧ t.orders = { s.orders with faulted := s.orders.faulted.set i true }))

/-! ## The rules of the shared operations -/

/-- R26: the scaled value is the floor of r × S / 4,095, from 0 to S; the unclamped level is M plus or minus it, plus T, and
lies within ±30,500 mm; the level given is that held to ±10,000 mm; a LOOP OPEN gives no level. -/
def Obligations.ReadingGivesClampedLevel : Prop :=
  ∀ (g : GaugeSettings) (r : Nat) (x : GaugeRecord), r ≤ 4095 → LevelInRange g.mount → 100 ≤ g.span → g.span ≤ 20000 →
    -500 ≤ g.trim → g.trim ≤ 500 →
    (∃ scaled : Nat, scaled * 4095 ≤ r * g.span ∧ r * g.span < (scaled + 1) * 4095 ∧ scaled ≤ g.span
      ∧ unclampedLevel g r = (match g.kind with
          | .depth => g.mount + scaled + g.trim
          | .range => g.mount - scaled + g.trim))
    ∧ -30500 ≤ unclampedLevel g r ∧ unclampedLevel g r ≤ 30500
    ∧ (unclampedLevel g r < -10000 → levelOf g r = -10000) ∧ (10000 < unclampedLevel g r → levelOf g r = 10000)
    ∧ (LevelInRange (unclampedLevel g r) → levelOf g r = unclampedLevel g r)
    ∧ ((x.read g .loopOpen).window = x.window ∨ (x.read g .loopOpen).window = [])

/-- R28 and the window column of Table 2-3: a good reading's level joins at the newest end, the oldest of four leaves, a FAILED
gauge restarts with it alone; the smoothed level is the floor of the mean and lies within ±10,000 mm. And the condition and
hold count columns: a good reading leaves SATURATED at the rail or where the clamp acted and OK otherwise, with a hold count of
0 (R27); a LOOP OPEN raises the hold count of a gauge that is not FAILED, which is HOLDING (R29), and at a hold count of 3 fails
it (R30); a FAILED gauge keeps its record (Table 2-3). -/
def Obligations.SmoothedLevelIsFlooredMean : Prop :=
  ∀ (g : GaugeSettings) (r : Nat) (x : GaugeRecord), r ≤ 4095 → x.window.length ≤ 4 → (∀ y ∈ x.window, LevelInRange y) →
    (x.condition ≠ .failed → (x.read g (.count r)).window =
      (if x.window.length = 4 then x.window.tail else x.window) ++ [levelOf g r])
    ∧ (x.condition = .failed → (x.read g (.count r)).window = [levelOf g r])
    ∧ 1 ≤ (x.read g (.count r)).window.length ∧ (x.read g (.count r)).window.length ≤ 4
    ∧ (∃ m : Int, (x.read g (.count r)).level = some m ∧ LevelInRange m
        ∧ m * (x.read g (.count r)).window.length ≤ (x.read g (.count r)).window.sum
        ∧ (x.read g (.count r)).window.sum < (m + 1) * (x.read g (.count r)).window.length)
    ∧ (x.read g (.count r)).holdCount = 0
    ∧ ((x.read g (.count r)).condition = .saturated ↔ r = 0 ∨ r = 4095 ∨ ¬LevelInRange (unclampedLevel g r))
    ∧ ((x.read g (.count r)).condition = .ok ↔ 0 < r ∧ r < 4095 ∧ LevelInRange (unclampedLevel g r))
    ∧ x.read g .loopOpen =
      (match x.condition with
        | .failed => x
        | .ok | .saturated => { x with holdCount := x.holdCount + 1, condition := .holding }
        | .holding =>
          if x.holdCount < 3 then { x with holdCount := x.holdCount + 1 }
          else { x with window := [], condition := .failed })

/-- R39 on a valid curve: q0 at or below h0, q7 at or above h7, between them the truncated interpolation of the segment that
holds the head; a head on a point gives that point's flow; every flow lies between q7 and q0. A SAMPLE computes it for each
pump with a valid curve and a valid head, whatever the pump's state, and only the flow of a LIFTING pump is charged. A curve is
valid exactly by the four conditions of R38. -/
def Obligations.FlowFollowsTheCurve : Prop :=
  ∀ (curve : Vector CurvePoint 8) (h : Int) (k : Fin 7) (river bay0 bay1 bay2 : LoopInput) (s : State),
    (curveValid curve = true ↔
      (∀ j : Fin 7, curve[j.val].head < curve[j.val + 1].head ∧ curve[j.val + 1].flow ≤ curve[j.val].flow)
      ∧ (∀ j : Fin 8, -20000 ≤ curve[j].head ∧ curve[j].head ≤ 22000) ∧ curve[0].flow ≤ 5000 ∧ 0 ≤ curve[7].flow)
    ∧ (curveValid curve = true →
      (h ≤ curve[0].head → flowAt curve h = curve[0].flow)
      ∧ (curve[7].head ≤ h → flowAt curve h = curve[7].flow)
      ∧ (curve[k.val].head ≤ h → h < curve[k.val + 1].head → flowAt curve h =
          curve[k.val].flow - (curve[k.val].flow - curve[k.val + 1].flow) * (h - curve[k.val].head)
            / (curve[k.val + 1].head - curve[k.val].head))
      ∧ (h = curve[k.val].head → flowAt curve h = curve[k.val].flow)
      ∧ (curve[k.val].head ≤ h → h < curve[k.val + 1].head → curve[k.val].flow ≠ curve[k.val + 1].flow →
          curve[k.val + 1].flow < flowAt curve h)
      ∧ curve[7].flow ≤ flowAt curve h ∧ flowAt curve h ≤ curve[0].flow)
    ∧ (s.isLive → Completes (exec (.sample river bay0 bay1 bay2) s) fun t =>
        (∀ p : PumpId, ∀ x ∈ t.gauges.heads[bayOf p], curveValid s.settings.pumps[p].curve = true →
          t.meter.flows[p] = some (flowAt s.settings.pumps[p].curve x).toNat)
        ∧ (∀ b : BayId, t.meter.volumes[b] =
            ((pumpsOf b).map fun p => if s.pumps[p].state = .lifting then (t.meter.flows[p]).getD 0 else 0).sum))

/-- R87: an arbitration has a winner only while RUNNING, not exhausted, on a bay that can be served; the winner brings its
district's candidate portion, is URGENT when any contender is, has the greatest credit of those that take part, and of equal
credits is the first after the rotation pointer. It has none only when there is no contender or one of those conditions
fails. A district's candidate for a bay is its first PENDING portion there of class URGENT in the order of acceptance, else its
first of class ROUTINE, and there is none when none is PENDING there (R72). -/
def Obligations.ArbitrationPicksGreatestCredit : Prop :=
  ∀ (s : State) (b : BayId),
    let mayServe : Prop := s.loader.station = .running ∧ s.accounts.exhausted = false
      ∧ (if (s.grantOf b).isSome then s.service b ≠ .outOfService else s.service b = .serviceable)
    (∀ d : DistrictId,
      let waits : OrderClass → Portion → Prop := fun c p => p.state = .pending ∧ p.bay = b ∧ p.cls = c
      (∀ p ∈ s.candidate d b,
        waits p.cls p
        ∧ (∃ before after : List Portion,
            s.orders.districts[d].queue = before ++ p :: after ∧ ∀ q ∈ before, ¬waits p.cls q)
        ∧ (p.cls = .routine → ∀ q ∈ s.orders.districts[d].queue, ¬waits .urgent q))
      ∧ (s.candidate d b = none → ∀ q ∈ s.orders.districts[d].queue, ¬(q.state = .pending ∧ q.bay = b)))
    ∧ (∀ w ∈ s.winner b,
      mayServe ∧ s.candidate w.district b = some w.portion ∧ w.credit = s.accounts.districts[w.district].credit
      ∧ (∀ x : DistrictId, ∀ p ∈ s.candidate x b, p.cls = .urgent → w.portion.cls = .urgent)
      ∧ (∀ x : DistrictId, ∀ p ∈ s.candidate x b, (p.cls = .urgent ∨ w.portion.cls ≠ .urgent) →
          s.accounts.districts[x].credit ≤ w.credit
          ∧ (s.accounts.districts[x].credit = w.credit →
              w.district - (s.arbiters.bays[b].pointer + 1) ≤ x - (s.arbiters.bays[b].pointer + 1))))
    ∧ (s.winner b = none → ¬mayServe ∨ ∀ x : DistrictId, s.candidate x b = none)

/-! ## Invariants that every step keeps -/

/-- Every invariant below holds at reset. -/
def Obligations.ResetMeetsTheInvariants : Prop :=
  AccountsSound State.reset ∧ PlanInForce State.reset ∧ GaugesBounded State.reset ∧ QueuesBounded State.reset
    ∧ RunningPumpsBounded State.reset ∧ Calm State.reset ∧ FaultRecordsSound State.reset ∧ GatesSound State.reset
    ∧ SettingsInRange State.reset.settings ∧ PortionsNamed State.reset ∧ ServingPumpsSound State.reset

/-- R50 to R52: the station total stays the sum of the district totals, and credits and totals stay within their bounds. -/
def Obligations.StepKeepsAccountsSound : Prop := StepKeeps AccountsSound

/-- R2: the active bank stays LOADED with a plan of 1 to 4 phases, the phase index below its phase count. -/
def Obligations.StepKeepsPlanInForce : Prop := StepKeeps PlanInForce

/-- R28, Table 2-2: gauge records stay within their ranges, given settings or not. -/
def Obligations.StepKeepsGaugesBounded : Prop := StepKeeps GaugesBounded

/-- R70, R163, R171: no district comes to hold more than 4 orders or 8 portions, and no class of a transmit queue outgrows
its entries; R67: no two portions of a district's queue come to share a name. -/
def Obligations.StepKeepsQueuesBounded : Prop := StepKeeps QueuesBounded ∧ StepKeeps PortionsNamed

/-- R91, R111: the pumps STARTING or LIFTING never exceed the feeder limit and stand only in GRANTED bays. -/
def Obligations.StepKeepsRunningPumpsBounded : Prop := StepKeeps RunningPumpsBounded

/-- R84, R115, R124: grant numbers stay below the counter, while RUNNING the Roster stays with the governing ceiling, and no report
of a pump is left between two commands. -/
def Obligations.StepKeepsCalm : Prop := StepKeeps Calm

/-- R132, R137: fault records stay sound; R126, R135, R136, R141: no pump that serves its bay comes to be HOT or held. -/
def Obligations.StepKeepsFaultRecordsSound : Prop := StepKeeps FaultRecordsSound ∧ StepKeeps ServingPumpsSound

/-- R62, R145: faulted flags stay those of the JAMMED gates, and no timer runs on a gate at rest. -/
def Obligations.StepKeepsGatesSound : Prop := StepKeeps GatesSound

/-- R177 and the ranges of the settings: every setting taken lies in its range. -/
def Obligations.StepKeepsSettingsInRange : Prop := StepKeeps fun s => SettingsInRange s.settings
end

