-- ==== Sys2Proof/Laws/State.lean ====
section
/-! SUPPORT. One lemma per field per update of the state, true by `rfl`, and what the writes of one record leave alone. -/

namespace Sys2Proof.Machine

open Sys2Proof

@[simp] theorem State.withPending_pending (s : State) (x : List Instr) : (s.withPending x).pending = x := rfl
@[simp] theorem State.withPending_second (s : State) (x : List Instr) : (s.withPending x).second = s.second := rfl
@[simp] theorem State.withPending_pins (s : State) (x : List Instr) : (s.withPending x).pins = s.pins := rfl
@[simp] theorem State.withPending_loader (s : State) (x : List Instr) : (s.withPending x).loader = s.loader := rfl
@[simp] theorem State.withPending_settings (s : State) (x : List Instr) : (s.withPending x).settings = s.settings := rfl
@[simp] theorem State.withPending_plans (s : State) (x : List Instr) : (s.withPending x).plans = s.plans := rfl
@[simp] theorem State.withPending_sequencer (s : State) (x : List Instr) : (s.withPending x).sequencer = s.sequencer := rfl
@[simp] theorem State.withPending_gauges (s : State) (x : List Instr) : (s.withPending x).gauges = s.gauges := rfl
@[simp] theorem State.withPending_meter (s : State) (x : List Instr) : (s.withPending x).meter = s.meter := rfl
@[simp] theorem State.withPending_accounts (s : State) (x : List Instr) : (s.withPending x).accounts = s.accounts := rfl
@[simp] theorem State.withPending_orders (s : State) (x : List Instr) : (s.withPending x).orders = s.orders := rfl
@[simp] theorem State.withPending_arbiters (s : State) (x : List Instr) : (s.withPending x).arbiters = s.arbiters := rfl
@[simp] theorem State.withPending_roster (s : State) (x : List Instr) : (s.withPending x).roster = s.roster := rfl
@[simp] theorem State.withPending_pumps (s : State) (x : List Instr) : (s.withPending x).pumps = s.pumps := rfl
@[simp] theorem State.withPending_reports (s : State) (x : List Instr) : (s.withPending x).reports = s.reports := rfl
@[simp] theorem State.withPending_gates (s : State) (x : List Instr) : (s.withPending x).gates = s.gates := rfl
@[simp] theorem State.withPending_ports (s : State) (x : List Instr) : (s.withPending x).ports = s.ports := rfl
@[simp] theorem State.withPending_river (s : State) (x : List Instr) : (s.withPending x).river = s.river := rfl
@[simp] theorem State.withPending_withPending (s : State) (x y : List Instr) : (s.withPending x).withPending y = s.withPending y := rfl

@[simp] theorem State.withSecond_pending (s : State) (x : Nat) : (s.withSecond x).pending = s.pending := rfl
@[simp] theorem State.withSecond_second (s : State) (x : Nat) : (s.withSecond x).second = x := rfl
@[simp] theorem State.withSecond_pins (s : State) (x : Nat) : (s.withSecond x).pins = s.pins := rfl
@[simp] theorem State.withSecond_loader (s : State) (x : Nat) : (s.withSecond x).loader = s.loader := rfl
@[simp] theorem State.withSecond_settings (s : State) (x : Nat) : (s.withSecond x).settings = s.settings := rfl
@[simp] theorem State.withSecond_plans (s : State) (x : Nat) : (s.withSecond x).plans = s.plans := rfl
@[simp] theorem State.withSecond_sequencer (s : State) (x : Nat) : (s.withSecond x).sequencer = s.sequencer := rfl
@[simp] theorem State.withSecond_gauges (s : State) (x : Nat) : (s.withSecond x).gauges = s.gauges := rfl
@[simp] theorem State.withSecond_meter (s : State) (x : Nat) : (s.withSecond x).meter = s.meter := rfl
@[simp] theorem State.withSecond_accounts (s : State) (x : Nat) : (s.withSecond x).accounts = s.accounts := rfl
@[simp] theorem State.withSecond_orders (s : State) (x : Nat) : (s.withSecond x).orders = s.orders := rfl
@[simp] theorem State.withSecond_arbiters (s : State) (x : Nat) : (s.withSecond x).arbiters = s.arbiters := rfl
@[simp] theorem State.withSecond_roster (s : State) (x : Nat) : (s.withSecond x).roster = s.roster := rfl
@[simp] theorem State.withSecond_pumps (s : State) (x : Nat) : (s.withSecond x).pumps = s.pumps := rfl
@[simp] theorem State.withSecond_reports (s : State) (x : Nat) : (s.withSecond x).reports = s.reports := rfl
@[simp] theorem State.withSecond_gates (s : State) (x : Nat) : (s.withSecond x).gates = s.gates := rfl
@[simp] theorem State.withSecond_ports (s : State) (x : Nat) : (s.withSecond x).ports = s.ports := rfl
@[simp] theorem State.withSecond_river (s : State) (x : Nat) : (s.withSecond x).river = s.river := rfl
@[simp] theorem State.withSecond_withSecond (s : State) (x y : Nat) : (s.withSecond x).withSecond y = s.withSecond y := rfl

@[simp] theorem State.withPins_pending (s : State) (x : Pins) : (s.withPins x).pending = s.pending := rfl
@[simp] theorem State.withPins_second (s : State) (x : Pins) : (s.withPins x).second = s.second := rfl
@[simp] theorem State.withPins_pins (s : State) (x : Pins) : (s.withPins x).pins = x := rfl
@[simp] theorem State.withPins_loader (s : State) (x : Pins) : (s.withPins x).loader = s.loader := rfl
@[simp] theorem State.withPins_settings (s : State) (x : Pins) : (s.withPins x).settings = s.settings := rfl
@[simp] theorem State.withPins_plans (s : State) (x : Pins) : (s.withPins x).plans = s.plans := rfl
@[simp] theorem State.withPins_sequencer (s : State) (x : Pins) : (s.withPins x).sequencer = s.sequencer := rfl
@[simp] theorem State.withPins_gauges (s : State) (x : Pins) : (s.withPins x).gauges = s.gauges := rfl
@[simp] theorem State.withPins_meter (s : State) (x : Pins) : (s.withPins x).meter = s.meter := rfl
@[simp] theorem State.withPins_accounts (s : State) (x : Pins) : (s.withPins x).accounts = s.accounts := rfl
@[simp] theorem State.withPins_orders (s : State) (x : Pins) : (s.withPins x).orders = s.orders := rfl
@[simp] theorem State.withPins_arbiters (s : State) (x : Pins) : (s.withPins x).arbiters = s.arbiters := rfl
@[simp] theorem State.withPins_roster (s : State) (x : Pins) : (s.withPins x).roster = s.roster := rfl
@[simp] theorem State.withPins_pumps (s : State) (x : Pins) : (s.withPins x).pumps = s.pumps := rfl
@[simp] theorem State.withPins_reports (s : State) (x : Pins) : (s.withPins x).reports = s.reports := rfl
@[simp] theorem State.withPins_gates (s : State) (x : Pins) : (s.withPins x).gates = s.gates := rfl
@[simp] theorem State.withPins_ports (s : State) (x : Pins) : (s.withPins x).ports = s.ports := rfl
@[simp] theorem State.withPins_river (s : State) (x : Pins) : (s.withPins x).river = s.river := rfl
@[simp] theorem State.withPins_withPins (s : State) (x y : Pins) : (s.withPins x).withPins y = s.withPins y := rfl

@[simp] theorem State.withLoader_pending (s : State) (x : Loader) : (s.withLoader x).pending = s.pending := rfl
@[simp] theorem State.withLoader_second (s : State) (x : Loader) : (s.withLoader x).second = s.second := rfl
@[simp] theorem State.withLoader_pins (s : State) (x : Loader) : (s.withLoader x).pins = s.pins := rfl
@[simp] theorem State.withLoader_loader (s : State) (x : Loader) : (s.withLoader x).loader = x := rfl
@[simp] theorem State.withLoader_settings (s : State) (x : Loader) : (s.withLoader x).settings = s.settings := rfl
@[simp] theorem State.withLoader_plans (s : State) (x : Loader) : (s.withLoader x).plans = s.plans := rfl
@[simp] theorem State.withLoader_sequencer (s : State) (x : Loader) : (s.withLoader x).sequencer = s.sequencer := rfl
@[simp] theorem State.withLoader_gauges (s : State) (x : Loader) : (s.withLoader x).gauges = s.gauges := rfl
@[simp] theorem State.withLoader_meter (s : State) (x : Loader) : (s.withLoader x).meter = s.meter := rfl
@[simp] theorem State.withLoader_accounts (s : State) (x : Loader) : (s.withLoader x).accounts = s.accounts := rfl
@[simp] theorem State.withLoader_orders (s : State) (x : Loader) : (s.withLoader x).orders = s.orders := rfl
@[simp] theorem State.withLoader_arbiters (s : State) (x : Loader) : (s.withLoader x).arbiters = s.arbiters := rfl
@[simp] theorem State.withLoader_roster (s : State) (x : Loader) : (s.withLoader x).roster = s.roster := rfl
@[simp] theorem State.withLoader_pumps (s : State) (x : Loader) : (s.withLoader x).pumps = s.pumps := rfl
@[simp] theorem State.withLoader_reports (s : State) (x : Loader) : (s.withLoader x).reports = s.reports := rfl
@[simp] theorem State.withLoader_gates (s : State) (x : Loader) : (s.withLoader x).gates = s.gates := rfl
@[simp] theorem State.withLoader_ports (s : State) (x : Loader) : (s.withLoader x).ports = s.ports := rfl
@[simp] theorem State.withLoader_river (s : State) (x : Loader) : (s.withLoader x).river = s.river := rfl
@[simp] theorem State.withLoader_withLoader (s : State) (x y : Loader) : (s.withLoader x).withLoader y = s.withLoader y := rfl

@[simp] theorem State.withSettings_pending (s : State) (x : Settings) : (s.withSettings x).pending = s.pending := rfl
@[simp] theorem State.withSettings_second (s : State) (x : Settings) : (s.withSettings x).second = s.second := rfl
@[simp] theorem State.withSettings_pins (s : State) (x : Settings) : (s.withSettings x).pins = s.pins := rfl
@[simp] theorem State.withSettings_loader (s : State) (x : Settings) : (s.withSettings x).loader = s.loader := rfl
@[simp] theorem State.withSettings_settings (s : State) (x : Settings) : (s.withSettings x).settings = x := rfl
@[simp] theorem State.withSettings_plans (s : State) (x : Settings) : (s.withSettings x).plans = s.plans := rfl
@[simp] theorem State.withSettings_sequencer (s : State) (x : Settings) : (s.withSettings x).sequencer = s.sequencer := rfl
@[simp] theorem State.withSettings_gauges (s : State) (x : Settings) : (s.withSettings x).gauges = s.gauges := rfl
@[simp] theorem State.withSettings_meter (s : State) (x : Settings) : (s.withSettings x).meter = s.meter := rfl
@[simp] theorem State.withSettings_accounts (s : State) (x : Settings) : (s.withSettings x).accounts = s.accounts := rfl
@[simp] theorem State.withSettings_orders (s : State) (x : Settings) : (s.withSettings x).orders = s.orders := rfl
@[simp] theorem State.withSettings_arbiters (s : State) (x : Settings) : (s.withSettings x).arbiters = s.arbiters := rfl
@[simp] theorem State.withSettings_roster (s : State) (x : Settings) : (s.withSettings x).roster = s.roster := rfl
@[simp] theorem State.withSettings_pumps (s : State) (x : Settings) : (s.withSettings x).pumps = s.pumps := rfl
@[simp] theorem State.withSettings_reports (s : State) (x : Settings) : (s.withSettings x).reports = s.reports := rfl
@[simp] theorem State.withSettings_gates (s : State) (x : Settings) : (s.withSettings x).gates = s.gates := rfl
@[simp] theorem State.withSettings_ports (s : State) (x : Settings) : (s.withSettings x).ports = s.ports := rfl
@[simp] theorem State.withSettings_river (s : State) (x : Settings) : (s.withSettings x).river = s.river := rfl
@[simp] theorem State.withSettings_withSettings (s : State) (x y : Settings) : (s.withSettings x).withSettings y = s.withSettings y := rfl

@[simp] theorem State.withPlans_pending (s : State) (x : PlanStore) : (s.withPlans x).pending = s.pending := rfl
@[simp] theorem State.withPlans_second (s : State) (x : PlanStore) : (s.withPlans x).second = s.second := rfl
@[simp] theorem State.withPlans_pins (s : State) (x : PlanStore) : (s.withPlans x).pins = s.pins := rfl
@[simp] theorem State.withPlans_loader (s : State) (x : PlanStore) : (s.withPlans x).loader = s.loader := rfl
@[simp] theorem State.withPlans_settings (s : State) (x : PlanStore) : (s.withPlans x).settings = s.settings := rfl
@[simp] theorem State.withPlans_plans (s : State) (x : PlanStore) : (s.withPlans x).plans = x := rfl
@[simp] theorem State.withPlans_sequencer (s : State) (x : PlanStore) : (s.withPlans x).sequencer = s.sequencer := rfl
@[simp] theorem State.withPlans_gauges (s : State) (x : PlanStore) : (s.withPlans x).gauges = s.gauges := rfl
@[simp] theorem State.withPlans_meter (s : State) (x : PlanStore) : (s.withPlans x).meter = s.meter := rfl
@[simp] theorem State.withPlans_accounts (s : State) (x : PlanStore) : (s.withPlans x).accounts = s.accounts := rfl
@[simp] theorem State.withPlans_orders (s : State) (x : PlanStore) : (s.withPlans x).orders = s.orders := rfl
@[simp] theorem State.withPlans_arbiters (s : State) (x : PlanStore) : (s.withPlans x).arbiters = s.arbiters := rfl
@[simp] theorem State.withPlans_roster (s : State) (x : PlanStore) : (s.withPlans x).roster = s.roster := rfl
@[simp] theorem State.withPlans_pumps (s : State) (x : PlanStore) : (s.withPlans x).pumps = s.pumps := rfl
@[simp] theorem State.withPlans_reports (s : State) (x : PlanStore) : (s.withPlans x).reports = s.reports := rfl
@[simp] theorem State.withPlans_gates (s : State) (x : PlanStore) : (s.withPlans x).gates = s.gates := rfl
@[simp] theorem State.withPlans_ports (s : State) (x : PlanStore) : (s.withPlans x).ports = s.ports := rfl
@[simp] theorem State.withPlans_river (s : State) (x : PlanStore) : (s.withPlans x).river = s.river := rfl
@[simp] theorem State.withPlans_withPlans (s : State) (x y : PlanStore) : (s.withPlans x).withPlans y = s.withPlans y := rfl

@[simp] theorem State.withSequencer_pending (s : State) (x : Sequencer) : (s.withSequencer x).pending = s.pending := rfl
@[simp] theorem State.withSequencer_second (s : State) (x : Sequencer) : (s.withSequencer x).second = s.second := rfl
@[simp] theorem State.withSequencer_pins (s : State) (x : Sequencer) : (s.withSequencer x).pins = s.pins := rfl
@[simp] theorem State.withSequencer_loader (s : State) (x : Sequencer) : (s.withSequencer x).loader = s.loader := rfl
@[simp] theorem State.withSequencer_settings (s : State) (x : Sequencer) : (s.withSequencer x).settings = s.settings := rfl
@[simp] theorem State.withSequencer_plans (s : State) (x : Sequencer) : (s.withSequencer x).plans = s.plans := rfl
@[simp] theorem State.withSequencer_sequencer (s : State) (x : Sequencer) : (s.withSequencer x).sequencer = x := rfl
@[simp] theorem State.withSequencer_gauges (s : State) (x : Sequencer) : (s.withSequencer x).gauges = s.gauges := rfl
@[simp] theorem State.withSequencer_meter (s : State) (x : Sequencer) : (s.withSequencer x).meter = s.meter := rfl
@[simp] theorem State.withSequencer_accounts (s : State) (x : Sequencer) : (s.withSequencer x).accounts = s.accounts := rfl
@[simp] theorem State.withSequencer_orders (s : State) (x : Sequencer) : (s.withSequencer x).orders = s.orders := rfl
@[simp] theorem State.withSequencer_arbiters (s : State) (x : Sequencer) : (s.withSequencer x).arbiters = s.arbiters := rfl
@[simp] theorem State.withSequencer_roster (s : State) (x : Sequencer) : (s.withSequencer x).roster = s.roster := rfl
@[simp] theorem State.withSequencer_pumps (s : State) (x : Sequencer) : (s.withSequencer x).pumps = s.pumps := rfl
@[simp] theorem State.withSequencer_reports (s : State) (x : Sequencer) : (s.withSequencer x).reports = s.reports := rfl
@[simp] theorem State.withSequencer_gates (s : State) (x : Sequencer) : (s.withSequencer x).gates = s.gates := rfl
@[simp] theorem State.withSequencer_ports (s : State) (x : Sequencer) : (s.withSequencer x).ports = s.ports := rfl
@[simp] theorem State.withSequencer_river (s : State) (x : Sequencer) : (s.withSequencer x).river = s.river := rfl
@[simp] theorem State.withSequencer_withSequencer (s : State) (x y : Sequencer) : (s.withSequencer x).withSequencer y = s.withSequencer y := rfl

@[simp] theorem State.withGauges_pending (s : State) (x : GaugeUnit) : (s.withGauges x).pending = s.pending := rfl
@[simp] theorem State.withGauges_second (s : State) (x : GaugeUnit) : (s.withGauges x).second = s.second := rfl
@[simp] theorem State.withGauges_pins (s : State) (x : GaugeUnit) : (s.withGauges x).pins = s.pins := rfl
@[simp] theorem State.withGauges_loader (s : State) (x : GaugeUnit) : (s.withGauges x).loader = s.loader := rfl
@[simp] theorem State.withGauges_settings (s : State) (x : GaugeUnit) : (s.withGauges x).settings = s.settings := rfl
@[simp] theorem State.withGauges_plans (s : State) (x : GaugeUnit) : (s.withGauges x).plans = s.plans := rfl
@[simp] theorem State.withGauges_sequencer (s : State) (x : GaugeUnit) : (s.withGauges x).sequencer = s.sequencer := rfl
@[simp] theorem State.withGauges_gauges (s : State) (x : GaugeUnit) : (s.withGauges x).gauges = x := rfl
@[simp] theorem State.withGauges_meter (s : State) (x : GaugeUnit) : (s.withGauges x).meter = s.meter := rfl
@[simp] theorem State.withGauges_accounts (s : State) (x : GaugeUnit) : (s.withGauges x).accounts = s.accounts := rfl
@[simp] theorem State.withGauges_orders (s : State) (x : GaugeUnit) : (s.withGauges x).orders = s.orders := rfl
@[simp] theorem State.withGauges_arbiters (s : State) (x : GaugeUnit) : (s.withGauges x).arbiters = s.arbiters := rfl
@[simp] theorem State.withGauges_roster (s : State) (x : GaugeUnit) : (s.withGauges x).roster = s.roster := rfl
@[simp] theorem State.withGauges_pumps (s : State) (x : GaugeUnit) : (s.withGauges x).pumps = s.pumps := rfl
@[simp] theorem State.withGauges_reports (s : State) (x : GaugeUnit) : (s.withGauges x).reports = s.reports := rfl
@[simp] theorem State.withGauges_gates (s : State) (x : GaugeUnit) : (s.withGauges x).gates = s.gates := rfl
@[simp] theorem State.withGauges_ports (s : State) (x : GaugeUnit) : (s.withGauges x).ports = s.ports := rfl
@[simp] theorem State.withGauges_river (s : State) (x : GaugeUnit) : (s.withGauges x).river = s.river := rfl
@[simp] theorem State.withGauges_withGauges (s : State) (x y : GaugeUnit) : (s.withGauges x).withGauges y = s.withGauges y := rfl

@[simp] theorem State.withMeter_pending (s : State) (x : Meter) : (s.withMeter x).pending = s.pending := rfl
@[simp] theorem State.withMeter_second (s : State) (x : Meter) : (s.withMeter x).second = s.second := rfl
@[simp] theorem State.withMeter_pins (s : State) (x : Meter) : (s.withMeter x).pins = s.pins := rfl
@[simp] theorem State.withMeter_loader (s : State) (x : Meter) : (s.withMeter x).loader = s.loader := rfl
@[simp] theorem State.withMeter_settings (s : State) (x : Meter) : (s.withMeter x).settings = s.settings := rfl
@[simp] theorem State.withMeter_plans (s : State) (x : Meter) : (s.withMeter x).plans = s.plans := rfl
@[simp] theorem State.withMeter_sequencer (s : State) (x : Meter) : (s.withMeter x).sequencer = s.sequencer := rfl
@[simp] theorem State.withMeter_gauges (s : State) (x : Meter) : (s.withMeter x).gauges = s.gauges := rfl
@[simp] theorem State.withMeter_meter (s : State) (x : Meter) : (s.withMeter x).meter = x := rfl
@[simp] theorem State.withMeter_accounts (s : State) (x : Meter) : (s.withMeter x).accounts = s.accounts := rfl
@[simp] theorem State.withMeter_orders (s : State) (x : Meter) : (s.withMeter x).orders = s.orders := rfl
@[simp] theorem State.withMeter_arbiters (s : State) (x : Meter) : (s.withMeter x).arbiters = s.arbiters := rfl
@[simp] theorem State.withMeter_roster (s : State) (x : Meter) : (s.withMeter x).roster = s.roster := rfl
@[simp] theorem State.withMeter_pumps (s : State) (x : Meter) : (s.withMeter x).pumps = s.pumps := rfl
@[simp] theorem State.withMeter_reports (s : State) (x : Meter) : (s.withMeter x).reports = s.reports := rfl
@[simp] theorem State.withMeter_gates (s : State) (x : Meter) : (s.withMeter x).gates = s.gates := rfl
@[simp] theorem State.withMeter_ports (s : State) (x : Meter) : (s.withMeter x).ports = s.ports := rfl
@[simp] theorem State.withMeter_river (s : State) (x : Meter) : (s.withMeter x).river = s.river := rfl
@[simp] theorem State.withMeter_withMeter (s : State) (x y : Meter) : (s.withMeter x).withMeter y = s.withMeter y := rfl

@[simp] theorem State.withAccounts_pending (s : State) (x : AccountTable) : (s.withAccounts x).pending = s.pending := rfl
@[simp] theorem State.withAccounts_second (s : State) (x : AccountTable) : (s.withAccounts x).second = s.second := rfl
@[simp] theorem State.withAccounts_pins (s : State) (x : AccountTable) : (s.withAccounts x).pins = s.pins := rfl
@[simp] theorem State.withAccounts_loader (s : State) (x : AccountTable) : (s.withAccounts x).loader = s.loader := rfl
@[simp] theorem State.withAccounts_settings (s : State) (x : AccountTable) : (s.withAccounts x).settings = s.settings := rfl
@[simp] theorem State.withAccounts_plans (s : State) (x : AccountTable) : (s.withAccounts x).plans = s.plans := rfl
@[simp] theorem State.withAccounts_sequencer (s : State) (x : AccountTable) : (s.withAccounts x).sequencer = s.sequencer := rfl
@[simp] theorem State.withAccounts_gauges (s : State) (x : AccountTable) : (s.withAccounts x).gauges = s.gauges := rfl
@[simp] theorem State.withAccounts_meter (s : State) (x : AccountTable) : (s.withAccounts x).meter = s.meter := rfl
@[simp] theorem State.withAccounts_accounts (s : State) (x : AccountTable) : (s.withAccounts x).accounts = x := rfl
@[simp] theorem State.withAccounts_orders (s : State) (x : AccountTable) : (s.withAccounts x).orders = s.orders := rfl
@[simp] theorem State.withAccounts_arbiters (s : State) (x : AccountTable) : (s.withAccounts x).arbiters = s.arbiters := rfl
@[simp] theorem State.withAccounts_roster (s : State) (x : AccountTable) : (s.withAccounts x).roster = s.roster := rfl
@[simp] theorem State.withAccounts_pumps (s : State) (x : AccountTable) : (s.withAccounts x).pumps = s.pumps := rfl
@[simp] theorem State.withAccounts_reports (s : State) (x : AccountTable) : (s.withAccounts x).reports = s.reports := rfl
@[simp] theorem State.withAccounts_gates (s : State) (x : AccountTable) : (s.withAccounts x).gates = s.gates := rfl
@[simp] theorem State.withAccounts_ports (s : State) (x : AccountTable) : (s.withAccounts x).ports = s.ports := rfl
@[simp] theorem State.withAccounts_river (s : State) (x : AccountTable) : (s.withAccounts x).river = s.river := rfl
@[simp] theorem State.withAccounts_withAccounts (s : State) (x y : AccountTable) : (s.withAccounts x).withAccounts y = s.withAccounts y := rfl

@[simp] theorem State.withOrders_pending (s : State) (x : OrderUnit) : (s.withOrders x).pending = s.pending := rfl
@[simp] theorem State.withOrders_second (s : State) (x : OrderUnit) : (s.withOrders x).second = s.second := rfl
@[simp] theorem State.withOrders_pins (s : State) (x : OrderUnit) : (s.withOrders x).pins = s.pins := rfl
@[simp] theorem State.withOrders_loader (s : State) (x : OrderUnit) : (s.withOrders x).loader = s.loader := rfl
@[simp] theorem State.withOrders_settings (s : State) (x : OrderUnit) : (s.withOrders x).settings = s.settings := rfl
@[simp] theorem State.withOrders_plans (s : State) (x : OrderUnit) : (s.withOrders x).plans = s.plans := rfl
@[simp] theorem State.withOrders_sequencer (s : State) (x : OrderUnit) : (s.withOrders x).sequencer = s.sequencer := rfl
@[simp] theorem State.withOrders_gauges (s : State) (x : OrderUnit) : (s.withOrders x).gauges = s.gauges := rfl
@[simp] theorem State.withOrders_meter (s : State) (x : OrderUnit) : (s.withOrders x).meter = s.meter := rfl
@[simp] theorem State.withOrders_accounts (s : State) (x : OrderUnit) : (s.withOrders x).accounts = s.accounts := rfl
@[simp] theorem State.withOrders_orders (s : State) (x : OrderUnit) : (s.withOrders x).orders = x := rfl
@[simp] theorem State.withOrders_arbiters (s : State) (x : OrderUnit) : (s.withOrders x).arbiters = s.arbiters := rfl
@[simp] theorem State.withOrders_roster (s : State) (x : OrderUnit) : (s.withOrders x).roster = s.roster := rfl
@[simp] theorem State.withOrders_pumps (s : State) (x : OrderUnit) : (s.withOrders x).pumps = s.pumps := rfl
@[simp] theorem State.withOrders_reports (s : State) (x : OrderUnit) : (s.withOrders x).reports = s.reports := rfl
@[simp] theorem State.withOrders_gates (s : State) (x : OrderUnit) : (s.withOrders x).gates = s.gates := rfl
@[simp] theorem State.withOrders_ports (s : State) (x : OrderUnit) : (s.withOrders x).ports = s.ports := rfl
@[simp] theorem State.withOrders_river (s : State) (x : OrderUnit) : (s.withOrders x).river = s.river := rfl
@[simp] theorem State.withOrders_withOrders (s : State) (x y : OrderUnit) : (s.withOrders x).withOrders y = s.withOrders y := rfl

@[simp] theorem State.withArbiters_pending (s : State) (x : Arbiters) : (s.withArbiters x).pending = s.pending := rfl
@[simp] theorem State.withArbiters_second (s : State) (x : Arbiters) : (s.withArbiters x).second = s.second := rfl
@[simp] theorem State.withArbiters_pins (s : State) (x : Arbiters) : (s.withArbiters x).pins = s.pins := rfl
@[simp] theorem State.withArbiters_loader (s : State) (x : Arbiters) : (s.withArbiters x).loader = s.loader := rfl
@[simp] theorem State.withArbiters_settings (s : State) (x : Arbiters) : (s.withArbiters x).settings = s.settings := rfl
@[simp] theorem State.withArbiters_plans (s : State) (x : Arbiters) : (s.withArbiters x).plans = s.plans := rfl
@[simp] theorem State.withArbiters_sequencer (s : State) (x : Arbiters) : (s.withArbiters x).sequencer = s.sequencer := rfl
@[simp] theorem State.withArbiters_gauges (s : State) (x : Arbiters) : (s.withArbiters x).gauges = s.gauges := rfl
@[simp] theorem State.withArbiters_meter (s : State) (x : Arbiters) : (s.withArbiters x).meter = s.meter := rfl
@[simp] theorem State.withArbiters_accounts (s : State) (x : Arbiters) : (s.withArbiters x).accounts = s.accounts := rfl
@[simp] theorem State.withArbiters_orders (s : State) (x : Arbiters) : (s.withArbiters x).orders = s.orders := rfl
@[simp] theorem State.withArbiters_arbiters (s : State) (x : Arbiters) : (s.withArbiters x).arbiters = x := rfl
@[simp] theorem State.withArbiters_roster (s : State) (x : Arbiters) : (s.withArbiters x).roster = s.roster := rfl
@[simp] theorem State.withArbiters_pumps (s : State) (x : Arbiters) : (s.withArbiters x).pumps = s.pumps := rfl
@[simp] theorem State.withArbiters_reports (s : State) (x : Arbiters) : (s.withArbiters x).reports = s.reports := rfl
@[simp] theorem State.withArbiters_gates (s : State) (x : Arbiters) : (s.withArbiters x).gates = s.gates := rfl
@[simp] theorem State.withArbiters_ports (s : State) (x : Arbiters) : (s.withArbiters x).ports = s.ports := rfl
@[simp] theorem State.withArbiters_river (s : State) (x : Arbiters) : (s.withArbiters x).river = s.river := rfl
@[simp] theorem State.withArbiters_withArbiters (s : State) (x y : Arbiters) : (s.withArbiters x).withArbiters y = s.withArbiters y := rfl

@[simp] theorem State.withRoster_pending (s : State) (x : Roster) : (s.withRoster x).pending = s.pending := rfl
@[simp] theorem State.withRoster_second (s : State) (x : Roster) : (s.withRoster x).second = s.second := rfl
@[simp] theorem State.withRoster_pins (s : State) (x : Roster) : (s.withRoster x).pins = s.pins := rfl
@[simp] theorem State.withRoster_loader (s : State) (x : Roster) : (s.withRoster x).loader = s.loader := rfl
@[simp] theorem State.withRoster_settings (s : State) (x : Roster) : (s.withRoster x).settings = s.settings := rfl
@[simp] theorem State.withRoster_plans (s : State) (x : Roster) : (s.withRoster x).plans = s.plans := rfl
@[simp] theorem State.withRoster_sequencer (s : State) (x : Roster) : (s.withRoster x).sequencer = s.sequencer := rfl
@[simp] theorem State.withRoster_gauges (s : State) (x : Roster) : (s.withRoster x).gauges = s.gauges := rfl
@[simp] theorem State.withRoster_meter (s : State) (x : Roster) : (s.withRoster x).meter = s.meter := rfl
@[simp] theorem State.withRoster_accounts (s : State) (x : Roster) : (s.withRoster x).accounts = s.accounts := rfl
@[simp] theorem State.withRoster_orders (s : State) (x : Roster) : (s.withRoster x).orders = s.orders := rfl
@[simp] theorem State.withRoster_arbiters (s : State) (x : Roster) : (s.withRoster x).arbiters = s.arbiters := rfl
@[simp] theorem State.withRoster_roster (s : State) (x : Roster) : (s.withRoster x).roster = x := rfl
@[simp] theorem State.withRoster_pumps (s : State) (x : Roster) : (s.withRoster x).pumps = s.pumps := rfl
@[simp] theorem State.withRoster_reports (s : State) (x : Roster) : (s.withRoster x).reports = s.reports := rfl
@[simp] theorem State.withRoster_gates (s : State) (x : Roster) : (s.withRoster x).gates = s.gates := rfl
@[simp] theorem State.withRoster_ports (s : State) (x : Roster) : (s.withRoster x).ports = s.ports := rfl
@[simp] theorem State.withRoster_river (s : State) (x : Roster) : (s.withRoster x).river = s.river := rfl
@[simp] theorem State.withRoster_withRoster (s : State) (x y : Roster) : (s.withRoster x).withRoster y = s.withRoster y := rfl

@[simp] theorem State.withPumps_pending (s : State) (x : Vector Pump 6) : (s.withPumps x).pending = s.pending := rfl
@[simp] theorem State.withPumps_second (s : State) (x : Vector Pump 6) : (s.withPumps x).second = s.second := rfl
@[simp] theorem State.withPumps_pins (s : State) (x : Vector Pump 6) : (s.withPumps x).pins = s.pins := rfl
@[simp] theorem State.withPumps_loader (s : State) (x : Vector Pump 6) : (s.withPumps x).loader = s.loader := rfl
@[simp] theorem State.withPumps_settings (s : State) (x : Vector Pump 6) : (s.withPumps x).settings = s.settings := rfl
@[simp] theorem State.withPumps_plans (s : State) (x : Vector Pump 6) : (s.withPumps x).plans = s.plans := rfl
@[simp] theorem State.withPumps_sequencer (s : State) (x : Vector Pump 6) : (s.withPumps x).sequencer = s.sequencer := rfl
@[simp] theorem State.withPumps_gauges (s : State) (x : Vector Pump 6) : (s.withPumps x).gauges = s.gauges := rfl
@[simp] theorem State.withPumps_meter (s : State) (x : Vector Pump 6) : (s.withPumps x).meter = s.meter := rfl
@[simp] theorem State.withPumps_accounts (s : State) (x : Vector Pump 6) : (s.withPumps x).accounts = s.accounts := rfl
@[simp] theorem State.withPumps_orders (s : State) (x : Vector Pump 6) : (s.withPumps x).orders = s.orders := rfl
@[simp] theorem State.withPumps_arbiters (s : State) (x : Vector Pump 6) : (s.withPumps x).arbiters = s.arbiters := rfl
@[simp] theorem State.withPumps_roster (s : State) (x : Vector Pump 6) : (s.withPumps x).roster = s.roster := rfl
@[simp] theorem State.withPumps_pumps (s : State) (x : Vector Pump 6) : (s.withPumps x).pumps = x := rfl
@[simp] theorem State.withPumps_reports (s : State) (x : Vector Pump 6) : (s.withPumps x).reports = s.reports := rfl
@[simp] theorem State.withPumps_gates (s : State) (x : Vector Pump 6) : (s.withPumps x).gates = s.gates := rfl
@[simp] theorem State.withPumps_ports (s : State) (x : Vector Pump 6) : (s.withPumps x).ports = s.ports := rfl
@[simp] theorem State.withPumps_river (s : State) (x : Vector Pump 6) : (s.withPumps x).river = s.river := rfl
@[simp] theorem State.withPumps_withPumps (s : State) (x y : Vector Pump 6) : (s.withPumps x).withPumps y = s.withPumps y := rfl

@[simp] theorem State.withReports_pending (s : State) (x : List PumpReport) : (s.withReports x).pending = s.pending := rfl
@[simp] theorem State.withReports_second (s : State) (x : List PumpReport) : (s.withReports x).second = s.second := rfl
@[simp] theorem State.withReports_pins (s : State) (x : List PumpReport) : (s.withReports x).pins = s.pins := rfl
@[simp] theorem State.withReports_loader (s : State) (x : List PumpReport) : (s.withReports x).loader = s.loader := rfl
@[simp] theorem State.withReports_settings (s : State) (x : List PumpReport) : (s.withReports x).settings = s.settings := rfl
@[simp] theorem State.withReports_plans (s : State) (x : List PumpReport) : (s.withReports x).plans = s.plans := rfl
@[simp] theorem State.withReports_sequencer (s : State) (x : List PumpReport) : (s.withReports x).sequencer = s.sequencer := rfl
@[simp] theorem State.withReports_gauges (s : State) (x : List PumpReport) : (s.withReports x).gauges = s.gauges := rfl
@[simp] theorem State.withReports_meter (s : State) (x : List PumpReport) : (s.withReports x).meter = s.meter := rfl
@[simp] theorem State.withReports_accounts (s : State) (x : List PumpReport) : (s.withReports x).accounts = s.accounts := rfl
@[simp] theorem State.withReports_orders (s : State) (x : List PumpReport) : (s.withReports x).orders = s.orders := rfl
@[simp] theorem State.withReports_arbiters (s : State) (x : List PumpReport) : (s.withReports x).arbiters = s.arbiters := rfl
@[simp] theorem State.withReports_roster (s : State) (x : List PumpReport) : (s.withReports x).roster = s.roster := rfl
@[simp] theorem State.withReports_pumps (s : State) (x : List PumpReport) : (s.withReports x).pumps = s.pumps := rfl
@[simp] theorem State.withReports_reports (s : State) (x : List PumpReport) : (s.withReports x).reports = x := rfl
@[simp] theorem State.withReports_gates (s : State) (x : List PumpReport) : (s.withReports x).gates = s.gates := rfl
@[simp] theorem State.withReports_ports (s : State) (x : List PumpReport) : (s.withReports x).ports = s.ports := rfl
@[simp] theorem State.withReports_river (s : State) (x : List PumpReport) : (s.withReports x).river = s.river := rfl
@[simp] theorem State.withReports_withReports (s : State) (x y : List PumpReport) : (s.withReports x).withReports y = s.withReports y := rfl

@[simp] theorem State.withGates_pending (s : State) (x : Vector Gate 16) : (s.withGates x).pending = s.pending := rfl
@[simp] theorem State.withGates_second (s : State) (x : Vector Gate 16) : (s.withGates x).second = s.second := rfl
@[simp] theorem State.withGates_pins (s : State) (x : Vector Gate 16) : (s.withGates x).pins = s.pins := rfl
@[simp] theorem State.withGates_loader (s : State) (x : Vector Gate 16) : (s.withGates x).loader = s.loader := rfl
@[simp] theorem State.withGates_settings (s : State) (x : Vector Gate 16) : (s.withGates x).settings = s.settings := rfl
@[simp] theorem State.withGates_plans (s : State) (x : Vector Gate 16) : (s.withGates x).plans = s.plans := rfl
@[simp] theorem State.withGates_sequencer (s : State) (x : Vector Gate 16) : (s.withGates x).sequencer = s.sequencer := rfl
@[simp] theorem State.withGates_gauges (s : State) (x : Vector Gate 16) : (s.withGates x).gauges = s.gauges := rfl
@[simp] theorem State.withGates_meter (s : State) (x : Vector Gate 16) : (s.withGates x).meter = s.meter := rfl
@[simp] theorem State.withGates_accounts (s : State) (x : Vector Gate 16) : (s.withGates x).accounts = s.accounts := rfl
@[simp] theorem State.withGates_orders (s : State) (x : Vector Gate 16) : (s.withGates x).orders = s.orders := rfl
@[simp] theorem State.withGates_arbiters (s : State) (x : Vector Gate 16) : (s.withGates x).arbiters = s.arbiters := rfl
@[simp] theorem State.withGates_roster (s : State) (x : Vector Gate 16) : (s.withGates x).roster = s.roster := rfl
@[simp] theorem State.withGates_pumps (s : State) (x : Vector Gate 16) : (s.withGates x).pumps = s.pumps := rfl
@[simp] theorem State.withGates_reports (s : State) (x : Vector Gate 16) : (s.withGates x).reports = s.reports := rfl
@[simp] theorem State.withGates_gates (s : State) (x : Vector Gate 16) : (s.withGates x).gates = x := rfl
@[simp] theorem State.withGates_ports (s : State) (x : Vector Gate 16) : (s.withGates x).ports = s.ports := rfl
@[simp] theorem State.withGates_river (s : State) (x : Vector Gate 16) : (s.withGates x).river = s.river := rfl
@[simp] theorem State.withGates_withGates (s : State) (x y : Vector Gate 16) : (s.withGates x).withGates y = s.withGates y := rfl

@[simp] theorem State.withPorts_pending (s : State) (x : Vector Port 4) : (s.withPorts x).pending = s.pending := rfl
@[simp] theorem State.withPorts_second (s : State) (x : Vector Port 4) : (s.withPorts x).second = s.second := rfl
@[simp] theorem State.withPorts_pins (s : State) (x : Vector Port 4) : (s.withPorts x).pins = s.pins := rfl
@[simp] theorem State.withPorts_loader (s : State) (x : Vector Port 4) : (s.withPorts x).loader = s.loader := rfl
@[simp] theorem State.withPorts_settings (s : State) (x : Vector Port 4) : (s.withPorts x).settings = s.settings := rfl
@[simp] theorem State.withPorts_plans (s : State) (x : Vector Port 4) : (s.withPorts x).plans = s.plans := rfl
@[simp] theorem State.withPorts_sequencer (s : State) (x : Vector Port 4) : (s.withPorts x).sequencer = s.sequencer := rfl
@[simp] theorem State.withPorts_gauges (s : State) (x : Vector Port 4) : (s.withPorts x).gauges = s.gauges := rfl
@[simp] theorem State.withPorts_meter (s : State) (x : Vector Port 4) : (s.withPorts x).meter = s.meter := rfl
@[simp] theorem State.withPorts_accounts (s : State) (x : Vector Port 4) : (s.withPorts x).accounts = s.accounts := rfl
@[simp] theorem State.withPorts_orders (s : State) (x : Vector Port 4) : (s.withPorts x).orders = s.orders := rfl
@[simp] theorem State.withPorts_arbiters (s : State) (x : Vector Port 4) : (s.withPorts x).arbiters = s.arbiters := rfl
@[simp] theorem State.withPorts_roster (s : State) (x : Vector Port 4) : (s.withPorts x).roster = s.roster := rfl
@[simp] theorem State.withPorts_pumps (s : State) (x : Vector Port 4) : (s.withPorts x).pumps = s.pumps := rfl
@[simp] theorem State.withPorts_reports (s : State) (x : Vector Port 4) : (s.withPorts x).reports = s.reports := rfl
@[simp] theorem State.withPorts_gates (s : State) (x : Vector Port 4) : (s.withPorts x).gates = s.gates := rfl
@[simp] theorem State.withPorts_ports (s : State) (x : Vector Port 4) : (s.withPorts x).ports = x := rfl
@[simp] theorem State.withPorts_river (s : State) (x : Vector Port 4) : (s.withPorts x).river = s.river := rfl
@[simp] theorem State.withPorts_withPorts (s : State) (x y : Vector Port 4) : (s.withPorts x).withPorts y = s.withPorts y := rfl

@[simp] theorem State.withRiver_pending (s : State) (x : RiverPort) : (s.withRiver x).pending = s.pending := rfl
@[simp] theorem State.withRiver_second (s : State) (x : RiverPort) : (s.withRiver x).second = s.second := rfl
@[simp] theorem State.withRiver_pins (s : State) (x : RiverPort) : (s.withRiver x).pins = s.pins := rfl
@[simp] theorem State.withRiver_loader (s : State) (x : RiverPort) : (s.withRiver x).loader = s.loader := rfl
@[simp] theorem State.withRiver_settings (s : State) (x : RiverPort) : (s.withRiver x).settings = s.settings := rfl
@[simp] theorem State.withRiver_plans (s : State) (x : RiverPort) : (s.withRiver x).plans = s.plans := rfl
@[simp] theorem State.withRiver_sequencer (s : State) (x : RiverPort) : (s.withRiver x).sequencer = s.sequencer := rfl
@[simp] theorem State.withRiver_gauges (s : State) (x : RiverPort) : (s.withRiver x).gauges = s.gauges := rfl
@[simp] theorem State.withRiver_meter (s : State) (x : RiverPort) : (s.withRiver x).meter = s.meter := rfl
@[simp] theorem State.withRiver_accounts (s : State) (x : RiverPort) : (s.withRiver x).accounts = s.accounts := rfl
@[simp] theorem State.withRiver_orders (s : State) (x : RiverPort) : (s.withRiver x).orders = s.orders := rfl
@[simp] theorem State.withRiver_arbiters (s : State) (x : RiverPort) : (s.withRiver x).arbiters = s.arbiters := rfl
@[simp] theorem State.withRiver_roster (s : State) (x : RiverPort) : (s.withRiver x).roster = s.roster := rfl
@[simp] theorem State.withRiver_pumps (s : State) (x : RiverPort) : (s.withRiver x).pumps = s.pumps := rfl
@[simp] theorem State.withRiver_reports (s : State) (x : RiverPort) : (s.withRiver x).reports = s.reports := rfl
@[simp] theorem State.withRiver_gates (s : State) (x : RiverPort) : (s.withRiver x).gates = s.gates := rfl
@[simp] theorem State.withRiver_ports (s : State) (x : RiverPort) : (s.withRiver x).ports = s.ports := rfl
@[simp] theorem State.withRiver_river (s : State) (x : RiverPort) : (s.withRiver x).river = x := rfl
@[simp] theorem State.withRiver_withRiver (s : State) (x y : RiverPort) : (s.withRiver x).withRiver y = s.withRiver y := rfl

@[simp] theorem State.setPump_pending (s : State) (p : PumpId) (x : Pump) : (s.setPump p x).pending = s.pending := rfl
@[simp] theorem State.setPump_second (s : State) (p : PumpId) (x : Pump) : (s.setPump p x).second = s.second := rfl
@[simp] theorem State.setPump_pins (s : State) (p : PumpId) (x : Pump) : (s.setPump p x).pins = s.pins := rfl
@[simp] theorem State.setPump_loader (s : State) (p : PumpId) (x : Pump) : (s.setPump p x).loader = s.loader := rfl
@[simp] theorem State.setPump_settings (s : State) (p : PumpId) (x : Pump) : (s.setPump p x).settings = s.settings := rfl
@[simp] theorem State.setPump_plans (s : State) (p : PumpId) (x : Pump) : (s.setPump p x).plans = s.plans := rfl
@[simp] theorem State.setPump_sequencer (s : State) (p : PumpId) (x : Pump) : (s.setPump p x).sequencer = s.sequencer := rfl
@[simp] theorem State.setPump_gauges (s : State) (p : PumpId) (x : Pump) : (s.setPump p x).gauges = s.gauges := rfl
@[simp] theorem State.setPump_meter (s : State) (p : PumpId) (x : Pump) : (s.setPump p x).meter = s.meter := rfl
@[simp] theorem State.setPump_accounts (s : State) (p : PumpId) (x : Pump) : (s.setPump p x).accounts = s.accounts := rfl
@[simp] theorem State.setPump_orders (s : State) (p : PumpId) (x : Pump) : (s.setPump p x).orders = s.orders := rfl
@[simp] theorem State.setPump_arbiters (s : State) (p : PumpId) (x : Pump) : (s.setPump p x).arbiters = s.arbiters := rfl
@[simp] theorem State.setPump_roster (s : State) (p : PumpId) (x : Pump) : (s.setPump p x).roster = s.roster := rfl
@[simp] theorem State.setPump_reports (s : State) (p : PumpId) (x : Pump) : (s.setPump p x).reports = s.reports := rfl
@[simp] theorem State.setPump_gates (s : State) (p : PumpId) (x : Pump) : (s.setPump p x).gates = s.gates := rfl
@[simp] theorem State.setPump_ports (s : State) (p : PumpId) (x : Pump) : (s.setPump p x).ports = s.ports := rfl
@[simp] theorem State.setPump_river (s : State) (p : PumpId) (x : Pump) : (s.setPump p x).river = s.river := rfl

@[simp] theorem State.setGate_pending (s : State) (i : IntakeId) (x : Gate) : (s.setGate i x).pending = s.pending := rfl
@[simp] theorem State.setGate_second (s : State) (i : IntakeId) (x : Gate) : (s.setGate i x).second = s.second := rfl
@[simp] theorem State.setGate_pins (s : State) (i : IntakeId) (x : Gate) : (s.setGate i x).pins = s.pins := rfl
@[simp] theorem State.setGate_loader (s : State) (i : IntakeId) (x : Gate) : (s.setGate i x).loader = s.loader := rfl
@[simp] theorem State.setGate_settings (s : State) (i : IntakeId) (x : Gate) : (s.setGate i x).settings = s.settings := rfl
@[simp] theorem State.setGate_plans (s : State) (i : IntakeId) (x : Gate) : (s.setGate i x).plans = s.plans := rfl
@[simp] theorem State.setGate_sequencer (s : State) (i : IntakeId) (x : Gate) : (s.setGate i x).sequencer = s.sequencer := rfl
@[simp] theorem State.setGate_gauges (s : State) (i : IntakeId) (x : Gate) : (s.setGate i x).gauges = s.gauges := rfl
@[simp] theorem State.setGate_meter (s : State) (i : IntakeId) (x : Gate) : (s.setGate i x).meter = s.meter := rfl
@[simp] theorem State.setGate_accounts (s : State) (i : IntakeId) (x : Gate) : (s.setGate i x).accounts = s.accounts := rfl
@[simp] theorem State.setGate_orders (s : State) (i : IntakeId) (x : Gate) : (s.setGate i x).orders = s.orders := rfl
@[simp] theorem State.setGate_arbiters (s : State) (i : IntakeId) (x : Gate) : (s.setGate i x).arbiters = s.arbiters := rfl
@[simp] theorem State.setGate_roster (s : State) (i : IntakeId) (x : Gate) : (s.setGate i x).roster = s.roster := rfl
@[simp] theorem State.setGate_pumps (s : State) (i : IntakeId) (x : Gate) : (s.setGate i x).pumps = s.pumps := rfl
@[simp] theorem State.setGate_reports (s : State) (i : IntakeId) (x : Gate) : (s.setGate i x).reports = s.reports := rfl
@[simp] theorem State.setGate_ports (s : State) (i : IntakeId) (x : Gate) : (s.setGate i x).ports = s.ports := rfl
@[simp] theorem State.setGate_river (s : State) (i : IntakeId) (x : Gate) : (s.setGate i x).river = s.river := rfl

@[simp] theorem State.setPort_pending (s : State) (d : DistrictId) (x : Port) : (s.setPort d x).pending = s.pending := rfl
@[simp] theorem State.setPort_second (s : State) (d : DistrictId) (x : Port) : (s.setPort d x).second = s.second := rfl
@[simp] theorem State.setPort_pins (s : State) (d : DistrictId) (x : Port) : (s.setPort d x).pins = s.pins := rfl
@[simp] theorem State.setPort_loader (s : State) (d : DistrictId) (x : Port) : (s.setPort d x).loader = s.loader := rfl
@[simp] theorem State.setPort_settings (s : State) (d : DistrictId) (x : Port) : (s.setPort d x).settings = s.settings := rfl
@[simp] theorem State.setPort_plans (s : State) (d : DistrictId) (x : Port) : (s.setPort d x).plans = s.plans := rfl
@[simp] theorem State.setPort_sequencer (s : State) (d : DistrictId) (x : Port) : (s.setPort d x).sequencer = s.sequencer := rfl
@[simp] theorem State.setPort_gauges (s : State) (d : DistrictId) (x : Port) : (s.setPort d x).gauges = s.gauges := rfl
@[simp] theorem State.setPort_meter (s : State) (d : DistrictId) (x : Port) : (s.setPort d x).meter = s.meter := rfl
@[simp] theorem State.setPort_accounts (s : State) (d : DistrictId) (x : Port) : (s.setPort d x).accounts = s.accounts := rfl
@[simp] theorem State.setPort_orders (s : State) (d : DistrictId) (x : Port) : (s.setPort d x).orders = s.orders := rfl
@[simp] theorem State.setPort_arbiters (s : State) (d : DistrictId) (x : Port) : (s.setPort d x).arbiters = s.arbiters := rfl
@[simp] theorem State.setPort_roster (s : State) (d : DistrictId) (x : Port) : (s.setPort d x).roster = s.roster := rfl
@[simp] theorem State.setPort_pumps (s : State) (d : DistrictId) (x : Port) : (s.setPort d x).pumps = s.pumps := rfl
@[simp] theorem State.setPort_reports (s : State) (d : DistrictId) (x : Port) : (s.setPort d x).reports = s.reports := rfl
@[simp] theorem State.setPort_gates (s : State) (d : DistrictId) (x : Port) : (s.setPort d x).gates = s.gates := rfl
@[simp] theorem State.setPort_river (s : State) (d : DistrictId) (x : Port) : (s.setPort d x).river = s.river := rfl

@[simp] theorem State.setBay_pending (s : State) (b : BayId) (x : Bay) : (s.setBay b x).pending = s.pending := rfl
@[simp] theorem State.setBay_second (s : State) (b : BayId) (x : Bay) : (s.setBay b x).second = s.second := rfl
@[simp] theorem State.setBay_pins (s : State) (b : BayId) (x : Bay) : (s.setBay b x).pins = s.pins := rfl
@[simp] theorem State.setBay_loader (s : State) (b : BayId) (x : Bay) : (s.setBay b x).loader = s.loader := rfl
@[simp] theorem State.setBay_settings (s : State) (b : BayId) (x : Bay) : (s.setBay b x).settings = s.settings := rfl
@[simp] theorem State.setBay_plans (s : State) (b : BayId) (x : Bay) : (s.setBay b x).plans = s.plans := rfl
@[simp] theorem State.setBay_sequencer (s : State) (b : BayId) (x : Bay) : (s.setBay b x).sequencer = s.sequencer := rfl
@[simp] theorem State.setBay_gauges (s : State) (b : BayId) (x : Bay) : (s.setBay b x).gauges = s.gauges := rfl
@[simp] theorem State.setBay_meter (s : State) (b : BayId) (x : Bay) : (s.setBay b x).meter = s.meter := rfl
@[simp] theorem State.setBay_accounts (s : State) (b : BayId) (x : Bay) : (s.setBay b x).accounts = s.accounts := rfl
@[simp] theorem State.setBay_orders (s : State) (b : BayId) (x : Bay) : (s.setBay b x).orders = s.orders := rfl
@[simp] theorem State.setBay_roster (s : State) (b : BayId) (x : Bay) : (s.setBay b x).roster = s.roster := rfl
@[simp] theorem State.setBay_pumps (s : State) (b : BayId) (x : Bay) : (s.setBay b x).pumps = s.pumps := rfl
@[simp] theorem State.setBay_reports (s : State) (b : BayId) (x : Bay) : (s.setBay b x).reports = s.reports := rfl
@[simp] theorem State.setBay_gates (s : State) (b : BayId) (x : Bay) : (s.setBay b x).gates = s.gates := rfl
@[simp] theorem State.setBay_ports (s : State) (b : BayId) (x : Bay) : (s.setBay b x).ports = s.ports := rfl
@[simp] theorem State.setBay_river (s : State) (b : BayId) (x : Bay) : (s.setBay b x).river = s.river := rfl

@[simp] theorem State.setGrant_pending (s : State) (b : BayId) (x : Option Grant) : (s.setGrant b x).pending = s.pending := rfl
@[simp] theorem State.setGrant_second (s : State) (b : BayId) (x : Option Grant) : (s.setGrant b x).second = s.second := rfl
@[simp] theorem State.setGrant_pins (s : State) (b : BayId) (x : Option Grant) : (s.setGrant b x).pins = s.pins := rfl
@[simp] theorem State.setGrant_loader (s : State) (b : BayId) (x : Option Grant) : (s.setGrant b x).loader = s.loader := rfl
@[simp] theorem State.setGrant_settings (s : State) (b : BayId) (x : Option Grant) : (s.setGrant b x).settings = s.settings := rfl
@[simp] theorem State.setGrant_plans (s : State) (b : BayId) (x : Option Grant) : (s.setGrant b x).plans = s.plans := rfl
@[simp] theorem State.setGrant_sequencer (s : State) (b : BayId) (x : Option Grant) : (s.setGrant b x).sequencer = s.sequencer := rfl
@[simp] theorem State.setGrant_gauges (s : State) (b : BayId) (x : Option Grant) : (s.setGrant b x).gauges = s.gauges := rfl
@[simp] theorem State.setGrant_meter (s : State) (b : BayId) (x : Option Grant) : (s.setGrant b x).meter = s.meter := rfl
@[simp] theorem State.setGrant_accounts (s : State) (b : BayId) (x : Option Grant) : (s.setGrant b x).accounts = s.accounts := rfl
@[simp] theorem State.setGrant_orders (s : State) (b : BayId) (x : Option Grant) : (s.setGrant b x).orders = s.orders := rfl
@[simp] theorem State.setGrant_roster (s : State) (b : BayId) (x : Option Grant) : (s.setGrant b x).roster = s.roster := rfl
@[simp] theorem State.setGrant_pumps (s : State) (b : BayId) (x : Option Grant) : (s.setGrant b x).pumps = s.pumps := rfl
@[simp] theorem State.setGrant_reports (s : State) (b : BayId) (x : Option Grant) : (s.setGrant b x).reports = s.reports := rfl
@[simp] theorem State.setGrant_gates (s : State) (b : BayId) (x : Option Grant) : (s.setGrant b x).gates = s.gates := rfl
@[simp] theorem State.setGrant_ports (s : State) (b : BayId) (x : Option Grant) : (s.setGrant b x).ports = s.ports := rfl
@[simp] theorem State.setGrant_river (s : State) (b : BayId) (x : Option Grant) : (s.setGrant b x).river = s.river := rfl

@[simp] theorem State.setAccount_pending (s : State) (d : DistrictId) (x : Account) : (s.setAccount d x).pending = s.pending := rfl
@[simp] theorem State.setAccount_second (s : State) (d : DistrictId) (x : Account) : (s.setAccount d x).second = s.second := rfl
@[simp] theorem State.setAccount_pins (s : State) (d : DistrictId) (x : Account) : (s.setAccount d x).pins = s.pins := rfl
@[simp] theorem State.setAccount_loader (s : State) (d : DistrictId) (x : Account) : (s.setAccount d x).loader = s.loader := rfl
@[simp] theorem State.setAccount_settings (s : State) (d : DistrictId) (x : Account) : (s.setAccount d x).settings = s.settings := rfl
@[simp] theorem State.setAccount_plans (s : State) (d : DistrictId) (x : Account) : (s.setAccount d x).plans = s.plans := rfl
@[simp] theorem State.setAccount_sequencer (s : State) (d : DistrictId) (x : Account) : (s.setAccount d x).sequencer = s.sequencer := rfl
@[simp] theorem State.setAccount_gauges (s : State) (d : DistrictId) (x : Account) : (s.setAccount d x).gauges = s.gauges := rfl
@[simp] theorem State.setAccount_meter (s : State) (d : DistrictId) (x : Account) : (s.setAccount d x).meter = s.meter := rfl
@[simp] theorem State.setAccount_orders (s : State) (d : DistrictId) (x : Account) : (s.setAccount d x).orders = s.orders := rfl
@[simp] theorem State.setAccount_arbiters (s : State) (d : DistrictId) (x : Account) : (s.setAccount d x).arbiters = s.arbiters := rfl
@[simp] theorem State.setAccount_roster (s : State) (d : DistrictId) (x : Account) : (s.setAccount d x).roster = s.roster := rfl
@[simp] theorem State.setAccount_pumps (s : State) (d : DistrictId) (x : Account) : (s.setAccount d x).pumps = s.pumps := rfl
@[simp] theorem State.setAccount_reports (s : State) (d : DistrictId) (x : Account) : (s.setAccount d x).reports = s.reports := rfl
@[simp] theorem State.setAccount_gates (s : State) (d : DistrictId) (x : Account) : (s.setAccount d x).gates = s.gates := rfl
@[simp] theorem State.setAccount_ports (s : State) (d : DistrictId) (x : Account) : (s.setAccount d x).ports = s.ports := rfl
@[simp] theorem State.setAccount_river (s : State) (d : DistrictId) (x : Account) : (s.setAccount d x).river = s.river := rfl

@[simp] theorem State.setOrders_pending (s : State) (d : DistrictId) (x : DistrictOrders) : (s.setOrders d x).pending = s.pending := rfl
@[simp] theorem State.setOrders_second (s : State) (d : DistrictId) (x : DistrictOrders) : (s.setOrders d x).second = s.second := rfl
@[simp] theorem State.setOrders_pins (s : State) (d : DistrictId) (x : DistrictOrders) : (s.setOrders d x).pins = s.pins := rfl
@[simp] theorem State.setOrders_loader (s : State) (d : DistrictId) (x : DistrictOrders) : (s.setOrders d x).loader = s.loader := rfl
@[simp] theorem State.setOrders_settings (s : State) (d : DistrictId) (x : DistrictOrders) : (s.setOrders d x).settings = s.settings := rfl
@[simp] theorem State.setOrders_plans (s : State) (d : DistrictId) (x : DistrictOrders) : (s.setOrders d x).plans = s.plans := rfl
@[simp] theorem State.setOrders_sequencer (s : State) (d : DistrictId) (x : DistrictOrders) : (s.setOrders d x).sequencer = s.sequencer := rfl
@[simp] theorem State.setOrders_gauges (s : State) (d : DistrictId) (x : DistrictOrders) : (s.setOrders d x).gauges = s.gauges := rfl
@[simp] theorem State.setOrders_meter (s : State) (d : DistrictId) (x : DistrictOrders) : (s.setOrders d x).meter = s.meter := rfl
@[simp] theorem State.setOrders_accounts (s : State) (d : DistrictId) (x : DistrictOrders) : (s.setOrders d x).accounts = s.accounts := rfl
@[simp] theorem State.setOrders_arbiters (s : State) (d : DistrictId) (x : DistrictOrders) : (s.setOrders d x).arbiters = s.arbiters := rfl
@[simp] theorem State.setOrders_roster (s : State) (d : DistrictId) (x : DistrictOrders) : (s.setOrders d x).roster = s.roster := rfl
@[simp] theorem State.setOrders_pumps (s : State) (d : DistrictId) (x : DistrictOrders) : (s.setOrders d x).pumps = s.pumps := rfl
@[simp] theorem State.setOrders_reports (s : State) (d : DistrictId) (x : DistrictOrders) : (s.setOrders d x).reports = s.reports := rfl
@[simp] theorem State.setOrders_gates (s : State) (d : DistrictId) (x : DistrictOrders) : (s.setOrders d x).gates = s.gates := rfl
@[simp] theorem State.setOrders_ports (s : State) (d : DistrictId) (x : DistrictOrders) : (s.setOrders d x).ports = s.ports := rfl
@[simp] theorem State.setOrders_river (s : State) (d : DistrictId) (x : DistrictOrders) : (s.setOrders d x).river = s.river := rfl

@[simp] theorem State.setFaulted_pending (s : State) (i : IntakeId) (x : Bool) : (s.setFaulted i x).pending = s.pending := rfl
@[simp] theorem State.setFaulted_second (s : State) (i : IntakeId) (x : Bool) : (s.setFaulted i x).second = s.second := rfl
@[simp] theorem State.setFaulted_pins (s : State) (i : IntakeId) (x : Bool) : (s.setFaulted i x).pins = s.pins := rfl
@[simp] theorem State.setFaulted_loader (s : State) (i : IntakeId) (x : Bool) : (s.setFaulted i x).loader = s.loader := rfl
@[simp] theorem State.setFaulted_settings (s : State) (i : IntakeId) (x : Bool) : (s.setFaulted i x).settings = s.settings := rfl
@[simp] theorem State.setFaulted_plans (s : State) (i : IntakeId) (x : Bool) : (s.setFaulted i x).plans = s.plans := rfl
@[simp] theorem State.setFaulted_sequencer (s : State) (i : IntakeId) (x : Bool) : (s.setFaulted i x).sequencer = s.sequencer := rfl
@[simp] theorem State.setFaulted_gauges (s : State) (i : IntakeId) (x : Bool) : (s.setFaulted i x).gauges = s.gauges := rfl
@[simp] theorem State.setFaulted_meter (s : State) (i : IntakeId) (x : Bool) : (s.setFaulted i x).meter = s.meter := rfl
@[simp] theorem State.setFaulted_accounts (s : State) (i : IntakeId) (x : Bool) : (s.setFaulted i x).accounts = s.accounts := rfl
@[simp] theorem State.setFaulted_arbiters (s : State) (i : IntakeId) (x : Bool) : (s.setFaulted i x).arbiters = s.arbiters := rfl
@[simp] theorem State.setFaulted_roster (s : State) (i : IntakeId) (x : Bool) : (s.setFaulted i x).roster = s.roster := rfl
@[simp] theorem State.setFaulted_pumps (s : State) (i : IntakeId) (x : Bool) : (s.setFaulted i x).pumps = s.pumps := rfl
@[simp] theorem State.setFaulted_reports (s : State) (i : IntakeId) (x : Bool) : (s.setFaulted i x).reports = s.reports := rfl
@[simp] theorem State.setFaulted_gates (s : State) (i : IntakeId) (x : Bool) : (s.setFaulted i x).gates = s.gates := rfl
@[simp] theorem State.setFaulted_ports (s : State) (i : IntakeId) (x : Bool) : (s.setFaulted i x).ports = s.ports := rfl
@[simp] theorem State.setFaulted_river (s : State) (i : IntakeId) (x : Bool) : (s.setFaulted i x).river = s.river := rfl

@[simp] theorem State.setStation_pending (s : State) (x : StationState) : (s.setStation x).pending = s.pending := rfl
@[simp] theorem State.setStation_second (s : State) (x : StationState) : (s.setStation x).second = s.second := rfl
@[simp] theorem State.setStation_pins (s : State) (x : StationState) : (s.setStation x).pins = s.pins := rfl
@[simp] theorem State.setStation_settings (s : State) (x : StationState) : (s.setStation x).settings = s.settings := rfl
@[simp] theorem State.setStation_plans (s : State) (x : StationState) : (s.setStation x).plans = s.plans := rfl
@[simp] theorem State.setStation_sequencer (s : State) (x : StationState) : (s.setStation x).sequencer = s.sequencer := rfl
@[simp] theorem State.setStation_gauges (s : State) (x : StationState) : (s.setStation x).gauges = s.gauges := rfl
@[simp] theorem State.setStation_meter (s : State) (x : StationState) : (s.setStation x).meter = s.meter := rfl
@[simp] theorem State.setStation_accounts (s : State) (x : StationState) : (s.setStation x).accounts = s.accounts := rfl
@[simp] theorem State.setStation_orders (s : State) (x : StationState) : (s.setStation x).orders = s.orders := rfl
@[simp] theorem State.setStation_arbiters (s : State) (x : StationState) : (s.setStation x).arbiters = s.arbiters := rfl
@[simp] theorem State.setStation_roster (s : State) (x : StationState) : (s.setStation x).roster = s.roster := rfl
@[simp] theorem State.setStation_pumps (s : State) (x : StationState) : (s.setStation x).pumps = s.pumps := rfl
@[simp] theorem State.setStation_reports (s : State) (x : StationState) : (s.setStation x).reports = s.reports := rfl
@[simp] theorem State.setStation_gates (s : State) (x : StationState) : (s.setStation x).gates = s.gates := rfl
@[simp] theorem State.setStation_ports (s : State) (x : StationState) : (s.setStation x).ports = s.ports := rfl
@[simp] theorem State.setStation_river (s : State) (x : StationState) : (s.setStation x).river = s.river := rfl

@[simp] theorem State.setPump_pumps (s : State) (p : PumpId) (x : Pump) : (s.setPump p x).pumps = s.pumps.set p x := rfl
@[simp] theorem State.setGate_gates (s : State) (i : IntakeId) (x : Gate) : (s.setGate i x).gates = s.gates.set i x := rfl
@[simp] theorem State.setPort_ports (s : State) (d : DistrictId) (x : Port) : (s.setPort d x).ports = s.ports.set d x := rfl
@[simp] theorem State.setStation_station (s : State) (x : StationState) : (s.setStation x).loader.station = x := rfl

end Sys2Proof.Machine
end

