-- ==== Sys2Proof/Laws/Touches.lean ====
section
/-! SUPPORT. What each shared operation leaves alone: one `OnlyTouches` lemma per operation, and the algebra to chain them. A
later proof reads a part that an operation does not touch by `(State.…_touches …).same .pins`. -/

-- Elaborated one after another: in parallel, the threads of so many proofs outgrow the memory the check allows.
set_option Elab.async false

namespace Sys2Proof.Safety

open Sys2Proof Sys2Proof.Machine

variable {bs cs ds : List Block} {s t u : State}

/-! ## The algebra -/

theorem OnlyTouches.keep : OnlyTouches bs s s := by intro k _; cases k <;> rfl

theorem OnlyTouches.mono (h : OnlyTouches bs s t) (hb : ∀ k ∈ bs, k ∈ ds := by decide) : OnlyTouches ds s t :=
  fun k hk => h k fun hm => hk (hb k hm)

theorem Block.Same.trans {k : Block} (h : k.Same s t) (g : k.Same t u) : k.Same s u := by
  cases k <;> exact Eq.trans g h

theorem OnlyTouches.andThen (h : OnlyTouches bs s t) (g : OnlyTouches cs t u) (hb : ∀ k ∈ bs, k ∈ ds := by decide)
    (hc : ∀ k ∈ cs, k ∈ ds := by decide) : OnlyTouches ds s u :=
  fun k hk => (h.mono hb k hk).trans (g.mono hc k hk)

theorem OnlyTouches.each {α : Type} {f : State → α → State} (h : ∀ t x, OnlyTouches bs t (f t x)) (xs : List α) :
    ∀ s : State, OnlyTouches bs s (s.each xs f) := by
  induction xs with
  | nil => exact fun _ => .keep
  | cons x xs ih => exact fun s => (h s x).andThen (ih _) (fun _ h => h) (fun _ h => h)

theorem OnlyTouches.same (h : OnlyTouches bs s t) (k : Block) (hk : k ∉ bs := by decide) : k.Same s t := h k hk

theorem OnlyTouches.ite {c : Prop} [Decidable c] (h : c → OnlyTouches bs s t) (g : ¬c → OnlyTouches bs s u) :
    OnlyTouches bs s (if c then t else u) := by
  split
  · exact h ‹_›
  · exact g ‹_›

end Sys2Proof.Safety

namespace Sys2Proof.Machine

open Sys2Proof Sys2Proof.Safety

variable {s : State}

/-! ## The writes -/

theorem State.withSecond_touches {x : Nat} : OnlyTouches [.second] s (s.withSecond x) := by intro k hk; cases k <;> simp_all [Block.Same]
theorem State.withPins_touches {x : Pins} : OnlyTouches [.pins] s (s.withPins x) := by intro k hk; cases k <;> simp_all [Block.Same]
theorem State.withLoader_touches {x : Loader} : OnlyTouches [.loader] s (s.withLoader x) := by intro k hk; cases k <;> simp_all [Block.Same]
theorem State.withSettings_touches {x : Settings} : OnlyTouches [.settings] s (s.withSettings x) := by intro k hk; cases k <;> simp_all [Block.Same]
theorem State.withPlans_touches {x : PlanStore} : OnlyTouches [.plans] s (s.withPlans x) := by intro k hk; cases k <;> simp_all [Block.Same]
theorem State.withSequencer_touches {x : Sequencer} : OnlyTouches [.sequencer] s (s.withSequencer x) := by intro k hk; cases k <;> simp_all [Block.Same]
theorem State.withGauges_touches {x : GaugeUnit} : OnlyTouches [.gauges] s (s.withGauges x) := by intro k hk; cases k <;> simp_all [Block.Same]
theorem State.withMeter_touches {x : Meter} : OnlyTouches [.meter] s (s.withMeter x) := by intro k hk; cases k <;> simp_all [Block.Same]
theorem State.withAccounts_touches {x : AccountTable} : OnlyTouches [.accounts] s (s.withAccounts x) := by intro k hk; cases k <;> simp_all [Block.Same]
theorem State.withOrders_touches {x : OrderUnit} : OnlyTouches [.orders] s (s.withOrders x) := by intro k hk; cases k <;> simp_all [Block.Same]
theorem State.withArbiters_touches {x : Arbiters} : OnlyTouches [.arbiters] s (s.withArbiters x) := by intro k hk; cases k <;> simp_all [Block.Same]
theorem State.withRoster_touches {x : Roster} : OnlyTouches [.roster] s (s.withRoster x) := by intro k hk; cases k <;> simp_all [Block.Same]
theorem State.withPumps_touches {x : Vector Pump 6} : OnlyTouches [.pumps] s (s.withPumps x) := by intro k hk; cases k <;> simp_all [Block.Same]
theorem State.withReports_touches {x : List PumpReport} : OnlyTouches [.reports] s (s.withReports x) := by intro k hk; cases k <;> simp_all [Block.Same]
theorem State.withGates_touches {x : Vector Gate 16} : OnlyTouches [.gates] s (s.withGates x) := by intro k hk; cases k <;> simp_all [Block.Same]
theorem State.withPorts_touches {x : Vector Port 4} : OnlyTouches [.ports] s (s.withPorts x) := by intro k hk; cases k <;> simp_all [Block.Same]
theorem State.withRiver_touches {x : RiverPort} : OnlyTouches [.river] s (s.withRiver x) := by intro k hk; cases k <;> simp_all [Block.Same]
theorem State.setPump_touches {p : PumpId} {x : Pump} : OnlyTouches [.pumps] s (s.setPump p x) := withPumps_touches
theorem State.setGate_touches {i : IntakeId} {x : Gate} : OnlyTouches [.gates] s (s.setGate i x) := withGates_touches
theorem State.setPort_touches {d : DistrictId} {x : Port} : OnlyTouches [.ports] s (s.setPort d x) := withPorts_touches
theorem State.setBay_touches {b : BayId} {x : Bay} : OnlyTouches [.arbiters] s (s.setBay b x) := withArbiters_touches
theorem State.setGrant_touches {b : BayId} {x : Option Grant} : OnlyTouches [.arbiters] s (s.setGrant b x) := setBay_touches
theorem State.setOrders_touches {d : DistrictId} {x : DistrictOrders} : OnlyTouches [.orders] s (s.setOrders d x) := withOrders_touches
theorem State.setFaulted_touches {i : IntakeId} {x : Bool} : OnlyTouches [.orders] s (s.setFaulted i x) := withOrders_touches
theorem State.setStation_touches {x : StationState} : OnlyTouches [.loader] s (s.setStation x) := withLoader_touches

/-! ## Flags and reports -/

theorem State.raiseStation_touches {f : StationFlag} : OnlyTouches [.river] s (s.raiseStation f) :=
  .ite (fun _ => withRiver_touches) fun _ => .keep

theorem State.reportTo_touches {d : DistrictId} {e : ReportEvent} : OnlyTouches [.ports] s (s.reportTo d e) :=
  .ite (fun _ => setPort_touches) fun _ => .keep

theorem State.reportAll_touches {e : ReportEvent} : OnlyTouches [.ports] s (s.reportAll e) :=
  .each (fun _ _ => reportTo_touches) _ _

theorem State.queueReply_touches {d : DistrictId} {r : Reply} : OnlyTouches [.ports] s (s.queueReply d r) := setPort_touches

theorem State.raiseHeadBlind_touches : OnlyTouches [.ports, .river] s s.raiseHeadBlind :=
  raiseStation_touches.andThen reportAll_touches

theorem State.raisePumpFault_touches : OnlyTouches [.ports, .river] s s.raisePumpFault :=
  raiseStation_touches.andThen reportAll_touches

/-! ## Gates -/

theorem State.startOpening_touches {i : IntakeId} : OnlyTouches [.gates] s (s.startOpening i) := by
  unfold startOpening; split <;> exact setGate_touches

theorem State.startClosing_touches {i : IntakeId} : OnlyTouches [.gates] s (s.startClosing i) := by
  unfold startClosing; split <;> exact setGate_touches

theorem State.openGate_touches {i : IntakeId} : OnlyTouches [.gates] s (s.openGate i) := by
  unfold openGate; split
  all_goals first | with_reducible exact startOpening_touches | with_reducible exact .keep

theorem State.closeGate_touches {i : IntakeId} : OnlyTouches [.gates] s (s.closeGate i) := by
  unfold closeGate; split
  all_goals first | with_reducible exact startClosing_touches | with_reducible exact .keep

theorem State.openGates_touches {xs : List IntakeId} : OnlyTouches [.gates] s (s.openGates xs) :=
  .each (fun _ _ => openGate_touches) _ _

theorem State.closeGates_touches {xs : List IntakeId} : OnlyTouches [.gates] s (s.closeGates xs) :=
  .each (fun _ _ => closeGate_touches) _ _

/-! ## Plans, phases, accounts -/

theorem State.swapBanks_touches : OnlyTouches [.plans, .ports, .river] s s.swapBanks :=
  (withPlans_touches.andThen raiseStation_touches (ds := [.plans, .river])).andThen reportAll_touches

theorem State.examineBank_touches : OnlyTouches [.plans, .ports, .river] s s.examineBank :=
  .ite (fun _ => swapBanks_touches) fun _ => .keep

theorem State.enterPhase_touches {n : Nat} : OnlyTouches [.sequencer] s (s.enterPhase n) := withSequencer_touches

theorem State.stagePlan_touches {p : Plan} : OnlyTouches [.plans] s (s.stagePlan p) := withPlans_touches

theorem State.replenish_touches : OnlyTouches [.accounts] s s.replenish := withAccounts_touches

/-! ## Pumps -/

theorem State.dropNumber_touches {p : PumpId} : OnlyTouches [.roster] s (s.dropNumber p) := withRoster_touches

/-- The parts that the entry of a pump to a state may move. -/
def moveParts : List Block := [.roster, .pumps, .reports]

theorem State.reportMove_touches {old : State} {p : PumpId} : OnlyTouches [.reports] s (s.reportMove old p) :=
  withReports_touches

theorem State.moveTo_touches {p : PumpId} {x : PumpState} : OnlyTouches moveParts s (s.moveTo p x) :=
  OnlyTouches.andThen (.ite (fun _ => setPump_touches.andThen dropNumber_touches) fun _ => setPump_touches.mono)
    reportMove_touches (bs := moveParts)

/-- The parts that a change of a pump's state may move before the blocks settle. -/
def pumpParts : List Block := [.roster, .pumps, .reports, .ports, .river]

theorem State.faultWith_touches {p : PumpId} {k : FaultKind} {xs : List FaultKind} :
    OnlyTouches pumpParts s (s.faultWith p k xs) :=
  (setPump_touches.andThen moveTo_touches (ds := moveParts)).andThen raisePumpFault_touches

theorem State.toIdle_touches {p : PumpId} : OnlyTouches pumpParts s (s.toIdle p) :=
  .ite (fun _ => moveTo_touches.andThen faultWith_touches) fun _ => moveTo_touches.mono

theorem State.leaveFault_touches {p : PumpId} : OnlyTouches pumpParts s (s.leaveFault p) :=
  .ite (fun _ => setPump_touches.andThen moveTo_touches) fun _ => setPump_touches.andThen toIdle_touches

theorem State.closeUp_touches {p : PumpId} {gone : FaultKind → Bool} : OnlyTouches pumpParts s (s.closeUp p gone) := by
  unfold closeUp
  dsimp only
  repeat' split
  all_goals first | with_reducible exact leaveFault_touches | with_reducible exact setPump_touches.mono | with_reducible exact .keep

theorem State.selfClear_touches {p : PumpId} : OnlyTouches pumpParts s (s.selfClear p) :=
  .ite (fun _ => closeUp_touches) fun _ => .keep

theorem State.clearKinds_touches {p : PumpId} {gone : FaultKind → Bool} : OnlyTouches pumpParts s (s.clearKinds p gone) :=
  closeUp_touches.andThen selfClear_touches

theorem State.fault_touches {p : PumpId} {k : FaultKind} : OnlyTouches pumpParts s (s.fault p k) :=
  faultWith_touches.andThen selfClear_touches

theorem State.note_touches {p : PumpId} {k : FaultKind} : OnlyTouches pumpParts s (s.note p k) :=
  .ite (fun _ => .keep) fun _ => setPump_touches.andThen raisePumpFault_touches

theorem State.endRundown_touches {p : PumpId} : OnlyTouches pumpParts s (s.endRundown p) := by
  unfold endRundown
  split
  · exact faultWith_touches.andThen selfClear_touches
  · exact .ite (fun _ => moveTo_touches.mono) fun _ => toIdle_touches

theorem State.toRundown_touches {p : PumpId} : OnlyTouches pumpParts s (s.toRundown p) :=
  .ite (fun _ => moveTo_touches.mono) fun _ => moveTo_touches.andThen endRundown_touches

theorem State.hotWhileRunning_touches {p : PumpId} : OnlyTouches pumpParts s (s.hotWhileRunning p) := by
  unfold hotWhileRunning
  split
  · exact fault_touches
  · exact note_touches.andThen toRundown_touches

theorem State.toLifting_touches {p : PumpId} : OnlyTouches pumpParts s (s.toLifting p) :=
  .ite (fun _ => moveTo_touches.andThen hotWhileRunning_touches) fun _ => moveTo_touches.mono

theorem State.afterStarting_touches {p : PumpId} : OnlyTouches pumpParts s (s.afterStarting p) :=
  .ite (fun _ => hotWhileRunning_touches) fun _ => .ite (fun _ => toLifting_touches) fun _ => .keep

theorem State.toPrimed_touches {p : PumpId} : OnlyTouches pumpParts s (s.toPrimed p) :=
  .ite (fun _ => moveTo_touches.andThen fault_touches) fun _ => moveTo_touches.mono

theorem State.toPriming_touches {p : PumpId} : OnlyTouches pumpParts s (s.toPriming p) :=
  .ite (fun _ => moveTo_touches.andThen fault_touches) fun _ =>
    .ite (fun _ => moveTo_touches.andThen toPrimed_touches) fun _ => moveTo_touches.mono

theorem State.callPump_touches {p : PumpId} : OnlyTouches pumpParts s (s.callPump p) :=
  .ite (fun _ => toPriming_touches) fun _ => .keep

theorem State.withdrawCall_touches {p : PumpId} : OnlyTouches pumpParts s (s.withdrawCall p) :=
  .ite (fun _ => toIdle_touches) fun _ => .keep

theorem State.stopPump_touches {p : PumpId} : OnlyTouches pumpParts s (s.stopPump p) :=
  .ite (fun _ => toRundown_touches) fun _ => .keep

theorem State.endSelfCheck_touches {p : PumpId} : OnlyTouches pumpParts s (s.endSelfCheck p) :=
  .ite (fun _ => toIdle_touches) fun _ => fault_touches

theorem State.tryEndSelfCheck_touches {p : PumpId} : OnlyTouches pumpParts s (s.tryEndSelfCheck p) :=
  .ite (fun _ => endSelfCheck_touches) fun _ => .keep

theorem State.startSelfCheck_touches {p : PumpId} : OnlyTouches pumpParts s (s.startSelfCheck p) :=
  setPump_touches.andThen tryEndSelfCheck_touches

theorem State.takeHot_touches {p : PumpId} : OnlyTouches pumpParts s (s.takeHot p) := by
  unfold takeHot
  split
  all_goals first | with_reducible exact .keep | with_reducible exact fault_touches | with_reducible exact hotWhileRunning_touches | with_reducible exact note_touches

theorem State.loseSupply_touches {p : PumpId} : OnlyTouches pumpParts s (s.loseSupply p) := by
  unfold loseSupply
  dsimp only
  repeat' split
  all_goals first
    | with_reducible exact .keep | with_reducible exact setPump_touches.mono | with_reducible exact toIdle_touches | with_reducible exact fault_touches
    | with_reducible exact setPump_touches.andThen raisePumpFault_touches

theorem State.regainSupply_touches {p : PumpId} : OnlyTouches pumpParts s (s.regainSupply p) := by
  unfold regainSupply
  dsimp only
  repeat' split
  all_goals first
    | with_reducible exact .keep | with_reducible exact clearKinds_touches | with_reducible exact setPump_touches.andThen tryEndSelfCheck_touches

theorem State.takeHold_touches {p : PumpId} : OnlyTouches pumpParts s (s.takeHold p) := by
  unfold takeHold
  split
  all_goals first | with_reducible exact .keep | with_reducible exact moveTo_touches.mono | with_reducible exact toRundown_touches

theorem State.takeRelease_touches {p : PumpId} : OnlyTouches pumpParts s (s.takeRelease p) :=
  .ite (fun _ => toIdle_touches) fun _ => .keep

theorem State.onReady_touches {p : PumpId} : OnlyTouches pumpParts s (s.onReady p) :=
  tryEndSelfCheck_touches.andThen selfClear_touches

theorem State.onRunning_touches {p : PumpId} : OnlyTouches pumpParts s (s.onRunning p) :=
  .ite (fun _ => toLifting_touches) fun _ => .keep

theorem State.onStopped_touches {p : PumpId} : OnlyTouches pumpParts s (s.onStopped p) := by
  unfold onStopped
  split
  all_goals first | with_reducible exact .keep | with_reducible exact endRundown_touches | with_reducible exact fault_touches

theorem State.onSiphonFull_touches {p : PumpId} : OnlyTouches pumpParts s (s.onSiphonFull p) :=
  .ite (fun _ => toPrimed_touches) fun _ => .keep

theorem State.onSiphonLost_touches {p : PumpId} : OnlyTouches pumpParts s (s.onSiphonLost p) := by
  unfold onSiphonLost
  split
  all_goals first | with_reducible exact .keep | with_reducible exact toPriming_touches | with_reducible exact fault_touches

/-! ## Orders -/

theorem State.mapPortions_touches {d : DistrictId} {f : Portion → Bool} {g : Portion → Portion} :
    OnlyTouches [.orders] s (s.mapPortions d f g) := setOrders_touches

theorem State.setPortion_touches {d : DistrictId} {tag : Byte} {b : BayId} {x : PortionState} :
    OnlyTouches [.orders] s (s.setPortion d tag b x) := mapPortions_touches

theorem State.queueDone_touches {d : DistrictId} {f : DoneFrame} : OnlyTouches [.ports] s (s.queueDone d f) :=
  setPort_touches

/-- The parts that the end of an order may move. -/
def orderParts : List Block := [.orders, .ports]

theorem State.endOrder_touches {d : DistrictId} {o : Order} : OnlyTouches orderParts s (s.endOrder d o) :=
  .ite (fun _ => setOrders_touches.andThen queueDone_touches) fun _ => setOrders_touches.mono

theorem State.testOrder_touches {d : DistrictId} {o : Order} : OnlyTouches orderParts s (s.testOrder d o) :=
  .ite (fun _ => endOrder_touches) fun _ => .keep

theorem State.testTag_touches {d : DistrictId} {tag : Byte} : OnlyTouches orderParts s (s.testTag d tag) := by
  unfold testTag
  split
  · exact testOrder_touches
  · exact .keep

theorem State.endPortions_touches {es : List Ending} : OnlyTouches orderParts s (s.endPortions es) :=
  (OnlyTouches.each (fun _ _ => setPortion_touches) _ _).andThen
    (.each (fun _ _ => .each (fun _ _ => testOrder_touches) _ _) _ _)

theorem State.placeFreed_touches {d : DistrictId} : OnlyTouches orderParts s (s.placeFreed d) := by
  unfold placeFreed
  dsimp only
  split
  · exact setOrders_touches.andThen queueDone_touches
  · exact .keep

theorem State.testOrders_touches {d : DistrictId} : OnlyTouches orderParts s (s.testOrders d) :=
  .each (fun _ _ => testOrder_touches) _ _

theorem State.enterOrder_touches {d : DistrictId} {o : Order} {ps : List Portion} :
    OnlyTouches [.orders] s (s.enterOrder d o ps) := setOrders_touches

/-! ## Grants -/

theorem State.renumberGrants_touches : OnlyTouches [.arbiters] s s.renumberGrants := withArbiters_touches

theorem State.installGrant_touches {b : BayId} {w : Contender} : OnlyTouches [.arbiters] s (s.installGrant b w) :=
  .ite (fun _ => setBay_touches.andThen withArbiters_touches) fun _ => setBay_touches.andThen renumberGrants_touches

/-- The parts that a grant start or a handover may move. -/
def grantParts : List Block := [.orders, .arbiters, .gates, .ports]

theorem State.startGrant_touches {b : BayId} {w : Contender} : OnlyTouches grantParts s (s.startGrant b w) :=
  ((installGrant_touches.andThen setPortion_touches (ds := [.orders, .arbiters])).andThen openGates_touches
    (ds := [.orders, .arbiters, .gates])).andThen reportTo_touches

theorem State.arbitrateAt_touches {b : BayId} {v : Service} : OnlyTouches grantParts s (s.arbitrateAt b v) := by
  unfold arbitrateAt
  split
  · exact .keep
  · split
    · exact startGrant_touches
    · exact .keep

theorem State.arbitrateFree_touches {b : BayId} : OnlyTouches grantParts s (s.arbitrateFree b) := arbitrateAt_touches

theorem State.arbitrateAll_touches : OnlyTouches grantParts s s.arbitrateAll :=
  .each (fun _ _ => arbitrateFree_touches) _ _

theorem State.reportEnd_touches {d : DistrictId} {reset : Bool} : OnlyTouches [.ports] s (s.reportEnd d reset) :=
  .ite (fun _ => .keep) fun _ => reportTo_touches

theorem State.handOver_touches {b : BayId} {g : Grant} {xs : List IntakeId} {reset : Bool} {w : Contender} :
    OnlyTouches grantParts s (s.handOver b g xs reset w) :=
  ((((installGrant_touches.andThen setPortion_touches (ds := [.orders, .arbiters])).andThen closeGates_touches
    (ds := grantParts)).andThen openGates_touches (ds := grantParts)).andThen reportEnd_touches
      (ds := grantParts)).andThen reportTo_touches

/-- The parts that the close of a grant may move. -/
def closeParts : List Block := [.arbiters, .roster, .pumps, .reports, .gates, .ports, .river]

theorem State.freeBay_touches {b : BayId} {g : Grant} {xs : List IntakeId} {reset : Bool} :
    OnlyTouches closeParts s (s.freeBay b g xs reset) :=
  (((setGrant_touches.andThen
    (.each (fun _ _ => stopPump_touches.andThen withdrawCall_touches (ds := pumpParts)) _ _)
      (ds := closeParts)).andThen closeGates_touches (ds := closeParts)).andThen reportEnd_touches
        (ds := closeParts)).andThen (.each (fun _ _ => selfClear_touches) _ _)

theorem State.closeGrant_touches {b : BayId} {g : Grant} {xs : List IntakeId} {reset : Bool} :
    OnlyTouches settled s (s.closeGrant b g xs reset) := by
  unfold closeGrant
  split
  · exact handOver_touches.mono
  · exact freeBay_touches.mono

theorem State.closeGrants_touches {xs : List Closing} {reset : Bool} : OnlyTouches settled s (s.closeGrants xs reset) :=
  .each (fun _ _ => closeGrant_touches) _ _

theorem State.renew_touches {b : BayId} {g : Grant} {lifting : Bool} {w : Contender} :
    OnlyTouches [.orders, .arbiters] s (s.renew b g lifting w) := setBay_touches.andThen setPortion_touches

theorem State.runCapReached_touches {b : BayId} {g : Grant} {p : Portion} {lifting : Bool} :
    OnlyTouches settled s (s.runCapReached b g p lifting) := by
  unfold runCapReached
  dsimp only
  split
  · split
    · exact setPortion_touches.andThen renew_touches
    · exact setPortion_touches.andThen handOver_touches
  · exact setPortion_touches.andThen freeBay_touches

theorem State.testGrant_touches {was : State} {es : List Ending} {b : BayId} {lifting : Bool} :
    OnlyTouches settled s (s.testGrant was es b lifting) := by
  unfold testGrant
  repeat' split
  all_goals first
    | with_reducible exact .keep | with_reducible exact closeGrant_touches | with_reducible exact runCapReached_touches
    | with_reducible exact setGrant_touches.mono

theorem State.returnPortion_touches {d : DistrictId} {tag : Byte} {b : BayId} :
    OnlyTouches [.orders] s (s.returnPortion d tag b) := mapPortions_touches

theorem State.closeReturning_touches {was : State} {b : BayId} : OnlyTouches settled s (s.closeReturning was b) := by
  unfold closeReturning
  split
  · exact .keep
  · exact returnPortion_touches.andThen freeBay_touches

theorem State.takeService_touches {was : State} {b : BayId} {v : Service} :
    OnlyTouches settled s (s.takeService was b v) := by
  unfold takeService
  repeat' split
  all_goals first
    | with_reducible exact .keep | with_reducible exact arbitrateAt_touches.mono
    | with_reducible exact reportAll_touches.andThen closeReturning_touches

theorem State.takeServices_touches {was : State} {xs : List (BayId × Service)} :
    OnlyTouches settled s (s.takeServices was xs) :=
  .each (fun _ _ => takeService_touches) _ _

theorem State.takeReports_touches {was : State} : ∀ {rounds n : Nat} {s : State},
    OnlyTouches settled s (State.takeReports was rounds n s)
  | 0, _, _ => .keep
  | _ + 1, _, _ => takeServices_touches.andThen takeReports_touches

theorem State.judgeReports_touches {old : State} : OnlyTouches settled s (s.judgeReports old) :=
  endPortions_touches.andThen takeReports_touches

/-- The parts that a phase boundary may move. -/
def boundaryParts : List Block := [.plans, .sequencer, .accounts, .orders, .arbiters, .gates, .ports, .river]

theorem State.boundary_touches {n : Nat} : OnlyTouches boundaryParts s (s.boundary n) :=
  ((((OnlyTouches.ite (fun _ => examineBank_touches) fun _ => .keep).andThen enterPhase_touches
    (ds := boundaryParts)).andThen replenish_touches (ds := boundaryParts)).andThen arbitrateAll_touches
      (ds := boundaryParts)).andThen reportAll_touches

/-! ## The Roster and the settling of a command -/

theorem State.rosterCall_touches {p : PumpId} : OnlyTouches pumpParts s (s.rosterCall p) :=
  .ite (fun _ => callPump_touches) fun _ => .keep

theorem State.giveNumber_touches {p : PumpId} : OnlyTouches [.roster] s (s.giveNumber p) := withRoster_touches

theorem State.setOutstanding_touches {x : Option PumpId} : OnlyTouches [.roster] s (s.setOutstanding x) :=
  withRoster_touches

theorem State.requestStart_touches {p : PumpId} : OnlyTouches pumpParts s (s.requestStart p) :=
  .ite
    (fun _ =>
      (((setOutstanding_touches.andThen moveTo_touches (ds := pumpParts)).andThen giveNumber_touches
        (ds := pumpParts)).andThen setOutstanding_touches (ds := pumpParts)).andThen afterStarting_touches)
    fun _ => setOutstanding_touches.andThen setOutstanding_touches

theorem State.considerStart_touches {xs : List PumpId} : OnlyTouches pumpParts s (s.considerStart xs) := by
  unfold considerStart
  repeat' split
  all_goals first | with_reducible exact requestStart_touches | with_reducible exact .keep

theorem State.callPumps_touches {old : State} {all : Bool} : OnlyTouches pumpParts s (s.callPumps old all) :=
  .each (fun _ _ => rosterCall_touches) _ _

theorem State.holdCeiling_touches : OnlyTouches [.roster] s s.holdCeiling :=
  .ite (fun _ => withRoster_touches) fun _ => .keep

/-- The parts that the entry to RUNNING may move. -/
def startParts : List Block := .loader :: boundaryParts

theorem State.enterRunning_touches : OnlyTouches startParts s s.enterRunning := by
  unfold enterRunning
  dsimp only
  have h : OnlyTouches startParts s ((s.setStation .running).boundary 0) :=
    setStation_touches.andThen boundary_touches
  refine OnlyTouches.andThen ?_ (.each (fun _ _ => .ite (fun _ => setPort_touches) fun _ => .keep) _ _) (ds := startParts)
    (bs := startParts)
  have flag : ∀ {t u : State} {c : Prop} [Decidable c], OnlyTouches startParts s t → OnlyTouches [.ports, .river] t u →
      OnlyTouches startParts s (if c then u else t) := by
    intro t u c _ g f
    exact .ite (fun _ => g.andThen f) fun _ => g
  have flag' : ∀ {t u : State} {c : Prop} [Decidable c], OnlyTouches startParts s t → OnlyTouches [.ports, .river] t u →
      OnlyTouches startParts s (if c then t else u) := by
    intro t u c _ g f
    exact .ite (fun _ => g) fun _ => g.andThen f
  refine flag ?_ reportAll_touches.mono
  refine OnlyTouches.andThen ?_ (.each (fun _ _ => .ite (fun _ => reportTo_touches) fun _ => .keep) _ _) (ds := startParts)
    (bs := startParts)
  refine flag' ?_ raiseStation_touches.mono
  refine flag ?_ raisePumpFault_touches
  refine flag ?_ raiseHeadBlind_touches
  exact flag h raiseStation_touches.mono

theorem State.leaveChecking_touches : OnlyTouches startParts s s.leaveChecking :=
  .ite (fun _ => enterRunning_touches) fun _ => .keep

/-- The parts that settling may move, the entry to RUNNING among what may come of it. -/
def settleParts : List Block :=
  [.loader, .plans, .sequencer, .accounts, .orders, .arbiters, .roster, .pumps, .reports, .gates, .ports, .river]

theorem State.settleRoster_touches {old : State} {x : Settling} : OnlyTouches settled s (s.settleRoster old x) := by
  have h : OnlyTouches settled s (s.holdCeiling.callPumps old x.callAll) :=
    holdCeiling_touches.andThen callPumps_touches
  exact ((h.andThen (.ite (fun _ => considerStart_touches) fun _ => .keep) (ds := settled)).andThen
    takeReports_touches (ds := settled)).andThen withReports_touches

theorem State.settle_touches {old : State} {x : Settling} : OnlyTouches settleParts s (s.settle old x) :=
  (judgeReports_touches.andThen leaveChecking_touches (ds := settleParts)).andThen settleRoster_touches

/-- Outside CHECKING the settling does not take the station anywhere. -/
theorem State.settle_touches_settled {old : State} {x : Settling} (hs : s.loader.station ≠ .checking) :
    OnlyTouches settled s (s.settle old x) := by
  have h : (s.judgeReports old).loader = s.loader := judgeReports_touches.same .loader
  have e : (s.judgeReports old).leaveChecking = s.judgeReports old := by simp [leaveChecking, h, hs]
  unfold settle
  rw [e]
  exact judgeReports_touches.andThen settleRoster_touches

/-! ## Samples, jams, frames and notices -/

/-- The parts that a reading of the gauges may move. -/
def readingParts : List Block := [.gauges, .ports, .river]

theorem State.readingFlags_touches {c e : Prop} [Decidable c] [Decidable e] {f : StationFlag} {t : State}
    (h : OnlyTouches [.gauges] s t) :
    OnlyTouches readingParts s
      (if c then (if e then t.raiseStation f else t).raiseHeadBlind else if e then t.raiseStation f else t) := by
  have g : OnlyTouches readingParts s (if e then t.raiseStation f else t) :=
    .ite (fun _ => h.andThen raiseStation_touches) fun _ => h.mono
  exact .ite (fun _ => g.andThen raiseHeadBlind_touches) fun _ => g

theorem State.readGauges_touches {xs : Vector LoopInput 4} : OnlyTouches readingParts s (s.readGauges xs) := by
  unfold readGauges
  dsimp only
  exact readingFlags_touches (OnlyTouches.andThen withGauges_touches withGauges_touches (fun _ h => h) fun _ h => h)

theorem State.chargeBay_touches {b : BayId} : OnlyTouches [.accounts, .orders, .arbiters] s (s.chargeBay b) := by
  unfold chargeBay
  dsimp only
  repeat' split
  all_goals first
    | with_reducible exact .keep
    | with_reducible exact (setGrant_touches.andThen mapPortions_touches (ds := [.orders, .arbiters])).andThen withAccounts_touches

theorem State.meterSample_touches : OnlyTouches [.meter, .accounts, .orders, .arbiters] s s.meterSample :=
  ((withMeter_touches.andThen withMeter_touches (ds := [.meter]) : OnlyTouches [.meter] s s.takeFlows.takeVolumes)).andThen
    (.each (fun _ _ => chargeBay_touches) _ _)

theorem State.countTimers_touches {n : Nat} : OnlyTouches [.pumps, .gates, .roster, .ports] s (s.countTimers n) :=
  ((withPumps_touches.andThen withGates_touches (ds := [.pumps, .gates, .roster, .ports])).andThen withRoster_touches
    (ds := [.pumps, .gates, .roster, .ports])).andThen withPorts_touches

theorem State.beginSample_touches : OnlyTouches [.second, .meter, .pumps, .gates, .roster, .ports] s s.beginSample :=
  (withSecond_touches.andThen countTimers_touches (ds := [.second, .pumps, .gates, .roster, .ports])).andThen
    withMeter_touches

theorem State.exhaustionBegins_touches {was : State} :
    OnlyTouches (.accounts :: settled) s (s.exhaustionBegins was) :=
  ((withAccounts_touches.andThen raiseStation_touches (ds := .accounts :: settled)).andThen reportAll_touches
    (ds := .accounts :: settled)).andThen (.each (fun _ _ => closeReturning_touches) _ _)

theorem State.exhaustionEnds_touches : OnlyTouches (.accounts :: settled) s s.exhaustionEnds :=
  (withAccounts_touches.andThen reportAll_touches (ds := .accounts :: settled)).andThen arbitrateAll_touches

theorem State.evaluateExhausted_touches {was : State} :
    OnlyTouches (.accounts :: settled) s (s.evaluateExhausted was) := by
  unfold evaluateExhausted
  repeat' split
  all_goals first | with_reducible exact exhaustionBegins_touches | with_reducible exact exhaustionEnds_touches | with_reducible exact .keep

theorem State.testGrants_touches {was : State} {es : List Ending} {f : BayId → Bool} :
    OnlyTouches settled s (s.testGrants was es f) :=
  .each (fun _ _ => testGrant_touches) _ _

theorem State.jamOrders_touches {i : IntakeId} : OnlyTouches settled s (s.jamOrders i) := by
  unfold jamOrders
  dsimp only
  exact ((setFaulted_touches.andThen (.each (fun _ _ => mapPortions_touches) _ _) (ds := settled)).andThen
    (.each (fun _ _ => testOrders_touches) _ _) (ds := settled)).andThen closeGrants_touches

theorem State.jam_touches {i : IntakeId} : OnlyTouches settled s (s.jam i) := by
  unfold jam
  dsimp only
  exact ((setGate_touches.andThen jamOrders_touches (ds := settled)).andThen raiseStation_touches
    (ds := settled)).andThen (.each (fun _ _ => .ite (fun _ => reportTo_touches) fun _ => .keep) _ _)

theorem State.setRx_touches {rx : Receiver} {x : RxState} : OnlyTouches [.ports, .river] s (s.setRx rx x) := by
  unfold setRx
  split
  all_goals first | with_reducible exact setPort_touches.mono | with_reducible exact withRiver_touches.mono

theorem State.answerFrame_touches {d : DistrictId} {pair : Pair} {kind tag : Byte} {o : ReplyOutcome}
    {xs : List IntakeStatus} : OnlyTouches [.ports] s (s.answerFrame d pair kind tag o xs) := queueReply_touches

theorem State.goodFrame_touches {d : DistrictId} {pair : Pair} : OnlyTouches [.ports] s (s.goodFrame d pair) := by
  unfold goodFrame setRx
  dsimp only
  split
  all_goals first | with_reducible exact setPort_touches.andThen setPort_touches | simp at *

theorem State.withdrawOrder_touches {d : DistrictId} {tag : Byte} : OnlyTouches settled s (s.withdrawOrder d tag) :=
  (mapPortions_touches.andThen testTag_touches (ds := orderParts)).andThen closeGrants_touches

theorem State.cancelOrders_touches {d : DistrictId} : OnlyTouches settled s (s.cancelOrders d) :=
  (mapPortions_touches.andThen closeGrants_touches (ds := settled)).andThen setOrders_touches

end Sys2Proof.Machine
end

