-- ==== Sys2Proof/Laws/Results.lean ====
section
/-! SUPPORT. What the shared operations come to: one lemma for each, which a proof cites instead of unfolding it. -/

set_option Elab.async false

namespace Sys2Proof.Safety

open Sys2Proof.Machine

theorem OtherPumpsSame.keep {s : State} {p : PumpId} : OtherPumpsSame p s s := fun _ _ => rfl

theorem OtherPumpsSame.andThen {s t u : State} {p : PumpId} (h : OtherPumpsSame p s t) (g : OtherPumpsSame p t u) :
    OtherPumpsSame p s u := fun q hq => (g q hq).trans (h q hq)

end Sys2Proof.Safety

namespace Sys2Proof.Machine

open Sys2Proof Sys2Proof.Safety

variable {s : State}

/-! ## Every command completes -/

/-- No meaning stops: every command leads to a next state. -/
theorem exec_next (c : Instr) (s : State) : ∃ t, exec c s = .next t := by
  cases c <;> exact ⟨_, rfl⟩

/-- So does every step. -/
theorem step_next (s : State) : ∃ t, step s = .next t := by
  unfold step
  split
  · exact exec_next _ _
  · unfold idle
    split
    · exact exec_next _ _
    · exact ⟨_, rfl⟩

/-! ## One record of several -/

/-- What a vector holds after one of its places is written. -/
theorem set_get {α : Type} {n : Nat} (v : Vector α n) (p q : Fin n) (x : α) :
    (v.set p x)[q] = if p = q then x else v[q] := by
  simp only [Fin.getElem_fin, Vector.getElem_set, Fin.ext_iff]

@[simp] theorem set_get_self {α : Type} {n : Nat} (v : Vector α n) (p : Fin n) (x : α) : (v.set p x)[p] = x := by
  simp

theorem set_get_other {α : Type} {n : Nat} (v : Vector α n) {p q : Fin n} (x : α) (h : q ≠ p) : (v.set p x)[q] = v[q] := by
  rw [set_get, if_neg (Ne.symm h)]

theorem State.setPump_self {p : PumpId} {x : Pump} : (s.setPump p x).pumps[p] = x := by simp

theorem State.setPump_others {p : PumpId} {x : Pump} : OtherPumpsSame p s (s.setPump p x) :=
  fun _ h => set_get_other _ _ h

theorem State.setGate_self {i : IntakeId} {x : Gate} : (s.setGate i x).gates[i] = x := by simp

theorem State.setGate_others {i : IntakeId} {x : Gate} : OtherGatesSame i s (s.setGate i x) :=
  fun _ h => set_get_other _ _ h

theorem State.setPort_self {d : DistrictId} {x : Port} : (s.setPort d x).ports[d] = x := by simp

theorem State.setPort_others {d : DistrictId} {x : Port} : OtherPortsSame d s (s.setPort d x) :=
  fun _ h => set_get_other _ _ h

/-- A bay holds the grant written to it, and the other bays theirs. -/
theorem State.setGrant_grantOf {b x : BayId} {g : Option Grant} :
    (s.setGrant b g).grantOf x = if b = x then g else s.grantOf x := by
  show (s.arbiters.bays.set b _)[x].grant = _
  rw [set_get]
  split <;> rfl

/-- What a district's orders are after a change to the orders of one district. -/
theorem State.setOrders_districts {d e : DistrictId} {x : DistrictOrders} :
    (s.setOrders d x).orders.districts[e] = if d = e then x else s.orders.districts[e] := set_get _ _ _ _

/-- A change of portions changes the queue of its district alone, and no table. -/
theorem State.mapPortions_districts {d e : DistrictId} {pick : Portion → Bool} {f : Portion → Portion} :
    (s.mapPortions d pick f).orders.districts[e] =
      if d = e then
        { s.orders.districts[e] with queue := s.orders.districts[e].queue.map fun p => if pick p then f p else p }
      else s.orders.districts[e] := by
  unfold mapPortions
  rw [setOrders_districts]
  split
  · rename_i h; subst h; rfl
  · rfl

/-! ## The end test -/

/-- The end that the tests of R92 and R96 find: COMPLETE at the target, else DRAINED where the drained test is applied. -/
theorem State.endTest_some {b : BayId} {fresh : Bool} {g : Grant} {p : Portion} (hg : s.grantOf b = some g)
    (hp : s.portion g.district g.tag b = some p) :
    s.endTest b fresh =
      if p.reached then some { district := g.district, tag := g.tag, bay := b, outcome := .complete }
      else if fresh && s.drained b g p then some { district := g.district, tag := g.tag, bay := b, outcome := .drained }
      else none := by
  simp only [endTest, hg, hp, Option.bind_some]

/-- A FREE bay has nothing to end. -/
theorem State.endTest_free {b : BayId} {fresh : Bool} (h : s.grantOf b = none) : s.endTest b fresh = none := by
  simp only [endTest, h, Option.bind_none]

/-! ## Timers -/

@[simp] theorem State.countTimers_pump {n : Nat} {p : PumpId} : (s.countTimers n).pumps[p] = s.pumps[p].count n := by
  simp [countTimers]

@[simp] theorem State.countTimers_gate {n : Nat} {i : IntakeId} : (s.countTimers n).gates[i] = s.gates[i].count n := by
  simp [countTimers]

@[simp] theorem State.countTimers_port {n : Nat} {d : DistrictId} : (s.countTimers n).ports[d] = s.ports[d].count n := by
  simp [countTimers]

/-! ## Flags and report events -/

/-- A flag stays set when another is raised over it. -/
theorem or_keeps_bit {n : Nat} (x y b : BitVec n) (h : x &&& b ≠ 0) : (x ||| y) &&& b ≠ 0 := by
  intro e
  apply h
  ext i hi
  have := congrArg (fun z : BitVec n => z[i]) e
  simp at this ⊢
  intro hx
  exact this (.inl hx)

/-- A flag that has been raised is set. -/
theorem or_sets_bit {n : Nat} (x b : BitVec n) (h : b ≠ 0) : (x ||| b) &&& b ≠ 0 := by
  intro e
  apply h
  ext i hi
  have := congrArg (fun z : BitVec n => z[i]) e
  simp at this ⊢
  cases hb : b[i]
  · rfl
  · simp [hb] at this

/-- The River Port's flags after one is raised (R174). -/
theorem State.raiseStation_flags {f : StationFlag} :
    (s.raiseStation f).river.flags = if s.isRunning then s.river.flags ||| f.bit else s.river.flags := by
  unfold raiseStation; split <;> rfl

/-- Asking for a report leaves the flags, the mask, the timer and the line of a port (R171). -/
theorem Port.askReport_flags (q : Port) : q.askReport.flags = q.flags := by
  unfold Port.askReport; split
  · rfl
  · split <;> rfl

/-- The pending flags of a port after it takes an event (R171). -/
theorem State.reportTo_flags {d : DistrictId} {e : ReportEvent} :
    (s.reportTo d e).ports[d].flags =
      if s.isRunning ∧ s.settings.districts[d].enabled = true ∧ s.ports[d].mask &&& e.bit ≠ 0 then s.ports[d].flags ||| e.bit
      else s.ports[d].flags := by
  unfold reportTo; split
  · rw [setPort_self, Port.askReport_flags]
  · rfl

theorem State.reportTo_others {d : DistrictId} {e : ReportEvent} : OtherPortsSame d s (s.reportTo d e) := by
  unfold reportTo; split
  · exact setPort_others
  · exact fun _ _ => rfl

/-! ## Gates -/

/-- A travel upward (R147). -/
theorem State.startOpening_self {i : IntakeId} :
    (s.startOpening i).gates[i] =
      if s.pins.atOpen[i] then { state := .opened, timer := none } else { state := .opening, timer := s.travelTimer } := by
  unfold startOpening; split <;> exact setGate_self

/-- A travel downward (R148). -/
theorem State.startClosing_self {i : IntakeId} :
    (s.startClosing i).gates[i] =
      if s.pins.atShut[i] then { state := .shut, timer := none } else { state := .closing, timer := s.travelTimer } := by
  unfold startClosing; split <;> exact setGate_self

theorem State.startOpening_others {i : IntakeId} : OtherGatesSame i s (s.startOpening i) := by
  unfold startOpening; split <;> exact setGate_others

theorem State.startClosing_others {i : IntakeId} : OtherGatesSame i s (s.startClosing i) := by
  unfold startClosing; split <;> exact setGate_others

theorem State.openGate_others {i : IntakeId} : OtherGatesSame i s (s.openGate i) := by
  unfold openGate; split
  all_goals first | with_reducible exact startOpening_others | exact fun _ _ => rfl

theorem State.closeGate_others {i : IntakeId} : OtherGatesSame i s (s.closeGate i) := by
  unfold closeGate; split
  all_goals first | with_reducible exact startClosing_others | exact fun _ _ => rfl

/-! ## Pumps -/

/-- A pump enters a state (R123, R125). -/
theorem State.moveTo_pumps {p : PumpId} {x : PumpState} :
    (s.moveTo p x).pumps =
      s.pumps.set p
        { s.pumps[p] with state := x, timer := entryTimer s.settings x, pulse := entryPulse s.pumps[p].state x } := by
  unfold moveTo; split <;> rfl

theorem State.moveTo_self {p : PumpId} {x : PumpState} :
    (s.moveTo p x).pumps[p] =
      { s.pumps[p] with state := x, timer := entryTimer s.settings x, pulse := entryPulse s.pumps[p].state x } := by
  rw [moveTo_pumps, set_get_self]

/-- PUMP_FAULT is signalled and no pump changes (R133). -/
theorem State.raisePumpFault_pumps : s.raisePumpFault.pumps = s.pumps := raisePumpFault_touches.same .pumps

/-- Nothing but PUMP_FAULT is told of a pump that enters FAULT; its record is as given (R132, R133). -/
theorem State.faultWith_self {p : PumpId} {k : FaultKind} {noted : List FaultKind} :
    (s.faultWith p k noted).pumps[p] =
      { s.pumps[p] with state := .fault, primary := some k, noted := noted, timer := .stopped, pulse := none } := by
  unfold faultWith
  rw [raisePumpFault_pumps, moveTo_self, setPump_self]
  cases s.pumps[p].state <;> rfl

/-- A record does not clear by itself while READY is false or the bay is GRANTED (R139). -/
theorem State.selfClear_stands {p : PumpId} (h : s.pins.ready[p] = false ∨ s.grantOf (bayOf p) ≠ none) : s.selfClear p = s := by
  unfold selfClear
  rw [if_neg]
  rintro ⟨-, hg, hr⟩
  rcases h with h | h
  · simp [h] at hr
  · exact h hg

/-- A pump whose fault stands enters FAULT with its noted list kept (R132, R133). -/
theorem State.fault_self {p : PumpId} {k : FaultKind} (h : s.pins.ready[p] = false ∨ s.grantOf (bayOf p) ≠ none) :
    (s.fault p k).pumps[p] =
      { s.pumps[p] with
        state := .fault, primary := some k, noted := s.pumps[p].noted, timer := .stopped, pulse := none } := by
  have hp : (s.faultWith p k s.pumps[p].noted).pins = s.pins := faultWith_touches.same .pins
  have ha : (s.faultWith p k s.pumps[p].noted).arbiters = s.arbiters := faultWith_touches.same .arbiters
  unfold fault
  rw [selfClear_stands, faultWith_self]
  rw [hp]
  unfold grantOf at *
  rw [ha]
  exact h

/-- A pump that enters IDLE with HOT false (R123, R136). -/
theorem State.toIdle_self {p : PumpId} (h : s.pins.hot[p] = false) :
    (s.toIdle p).pumps[p] =
      { s.pumps[p] with state := .idle, timer := .stopped, pulse := entryPulse s.pumps[p].state .idle } := by
  have hp : (s.moveTo p .idle).pins = s.pins := moveTo_touches.same .pins
  unfold toIdle
  simp only [hp, h, Bool.false_eq_true, if_false, moveTo_self]
  rfl

/-- A rundown that goes on because RUNNING is true (R131). -/
theorem State.toRundown_self {p : PumpId} (h : s.pins.running[p] = true) :
    (s.toRundown p).pumps[p] =
      { s.pumps[p] with state := .rundown, timer := .running s.settings.rundown, pulse := none } := by
  have hp : (s.moveTo p .rundown).pins = s.pins := moveTo_touches.same .pins
  unfold toRundown
  simp only [hp, h, if_true, moveTo_self]
  cases s.pumps[p].state <;> rfl

/-! ### What the operations on a pump leave to the others -/

theorem State.moveTo_others {p : PumpId} {x : PumpState} : OtherPumpsSame p s (s.moveTo p x) :=
  fun _ h => by rw [moveTo_pumps]; exact set_get_other _ _ h

theorem State.raisePumpFault_others {p : PumpId} : OtherPumpsSame p s s.raisePumpFault :=
  fun _ _ => by rw [raisePumpFault_pumps]

theorem State.faultWith_others {p : PumpId} {k : FaultKind} {xs : List FaultKind} : OtherPumpsSame p s (s.faultWith p k xs) :=
  (setPump_others.andThen moveTo_others).andThen raisePumpFault_others

theorem State.toIdle_others {p : PumpId} : OtherPumpsSame p s (s.toIdle p) := by
  unfold toIdle; dsimp only; split
  · exact moveTo_others.andThen faultWith_others
  · exact moveTo_others

theorem State.leaveFault_others {p : PumpId} : OtherPumpsSame p s (s.leaveFault p) := by
  unfold leaveFault; dsimp only; split
  · exact setPump_others.andThen moveTo_others
  · exact setPump_others.andThen toIdle_others

theorem State.closeUp_others {p : PumpId} {gone : FaultKind → Bool} : OtherPumpsSame p s (s.closeUp p gone) := by
  unfold closeUp; dsimp only
  repeat' split
  all_goals first
    | with_reducible exact .keep
    | with_reducible exact setPump_others
    | with_reducible exact leaveFault_others

theorem State.selfClear_others {p : PumpId} : OtherPumpsSame p s (s.selfClear p) := by
  unfold selfClear; split
  · exact closeUp_others
  · exact .keep

theorem State.clearKinds_others {p : PumpId} {gone : FaultKind → Bool} : OtherPumpsSame p s (s.clearKinds p gone) :=
  closeUp_others.andThen selfClear_others

theorem State.fault_others {p : PumpId} {k : FaultKind} : OtherPumpsSame p s (s.fault p k) :=
  faultWith_others.andThen selfClear_others

theorem State.note_others {p : PumpId} {k : FaultKind} : OtherPumpsSame p s (s.note p k) := by
  unfold note; split
  · exact .keep
  · exact setPump_others.andThen raisePumpFault_others

theorem State.endRundown_others {p : PumpId} : OtherPumpsSame p s (s.endRundown p) := by
  unfold endRundown; split
  · exact faultWith_others.andThen selfClear_others
  · split
    · exact moveTo_others
    · exact toIdle_others

theorem State.toRundown_others {p : PumpId} : OtherPumpsSame p s (s.toRundown p) := by
  unfold toRundown; dsimp only; split
  · exact moveTo_others
  · exact moveTo_others.andThen endRundown_others

theorem State.hotWhileRunning_others {p : PumpId} : OtherPumpsSame p s (s.hotWhileRunning p) := by
  unfold hotWhileRunning; split
  · exact fault_others
  · exact note_others.andThen toRundown_others

theorem State.toLifting_others {p : PumpId} : OtherPumpsSame p s (s.toLifting p) := by
  unfold toLifting; dsimp only; split
  · exact moveTo_others.andThen hotWhileRunning_others
  · exact moveTo_others

theorem State.afterStarting_others {p : PumpId} : OtherPumpsSame p s (s.afterStarting p) := by
  unfold afterStarting
  split
  · exact hotWhileRunning_others
  · split
    · exact toLifting_others
    · exact .keep

theorem State.toPrimed_others {p : PumpId} : OtherPumpsSame p s (s.toPrimed p) := by
  unfold toPrimed; dsimp only; split
  · exact moveTo_others.andThen fault_others
  · exact moveTo_others

theorem State.toPriming_others {p : PumpId} : OtherPumpsSame p s (s.toPriming p) := by
  unfold toPriming; dsimp only
  split
  · exact moveTo_others.andThen fault_others
  · split
    · exact moveTo_others.andThen toPrimed_others
    · exact moveTo_others

theorem State.callPump_others {p : PumpId} : OtherPumpsSame p s (s.callPump p) := by
  unfold callPump; split
  · exact toPriming_others
  · exact .keep

theorem State.stopPump_others {p : PumpId} : OtherPumpsSame p s (s.stopPump p) := by
  unfold stopPump; split
  · exact toRundown_others
  · exact .keep

theorem State.withdrawCall_others {p : PumpId} : OtherPumpsSame p s (s.withdrawCall p) := by
  unfold withdrawCall; split
  · exact toIdle_others
  · exact .keep

/-- A start request changes the pump it is for and no other (R113). -/
theorem State.requestStart_others {p : PumpId} : OtherPumpsSame p s (s.requestStart p) := by
  unfold requestStart; simp only; split
  · refine OtherPumpsSame.andThen ?_ afterStarting_others
    exact fun q h => (moveTo_others (s := s.setOutstanding (some p)) q h).trans rfl
  · exact fun _ _ => rfl

/-! ## Accounts -/

/-- A lowered credit keeps its bounds (R50). -/
theorem lowerCredit_bounds {x : Int} {v : Nat} (h : x ≤ Config.creditBound) :
    -Config.creditBound ≤ lowerCredit x v ∧ lowerCredit x v ≤ Config.creditBound := by
  simp only [lowerCredit, Config.creditBound] at *; omega

/-- A raised credit keeps its bounds (R50). -/
theorem raiseCredit_bounds {x : Int} {v : Nat} (h : -Config.creditBound ≤ x) :
    -Config.creditBound ≤ raiseCredit x v ∧ raiseCredit x v ≤ Config.creditBound := by
  simp only [raiseCredit, Config.creditBound] at *; omega

/-! ## Choices -/

/-- The first contender of greatest credit is one of the list, and none of them has a greater credit (R87). -/
theorem bestOf_spec {xs : List Contender} {w : Contender} (h : bestOf xs = some w) :
    w ∈ xs ∧ ∀ x ∈ xs, x.credit ≤ w.credit := by
  induction xs generalizing w with
  | nil => cases h
  | cons x rest ih =>
    simp only [bestOf] at h
    split at h
    · rename_i hn
      cases h
      refine ⟨List.mem_cons_self, fun y hy => ?_⟩
      rcases List.mem_cons.1 hy with rfl | hy
      · exact le_refl _
      · exfalso
        cases rest with
        | nil => cases hy
        | cons z zs => simp only [bestOf] at hn; split at hn <;> (try split at hn) <;> cases hn
    · rename_i y hy
      obtain ⟨hm, hg⟩ := ih hy
      split at h <;> cases h
      · refine ⟨List.mem_cons_of_mem _ hm, fun z hz => ?_⟩
        rcases List.mem_cons.1 hz with rfl | hz
        · omega
        · exact hg z hz
      · refine ⟨List.mem_cons_self, fun z hz => ?_⟩
        rcases List.mem_cons.1 hz with rfl | hz
        · exact le_refl _
        · have := hg z hz; omega

/-- The pump chosen of a list is one of it, and there is none only for an empty list (R110). -/
theorem State.firstOf_spec (xs : List PumpId) :
    (∀ p ∈ s.firstOf xs, p ∈ xs) ∧ (s.firstOf xs = none ↔ xs = []) := by
  induction xs with
  | nil => simp [firstOf]
  | cons x rest ih =>
    simp only [firstOf]
    split
    · simp
    · rename_i q hq
      have := ih.1 q (by simp [hq])
      split <;> simp [this]

end Sys2Proof.Machine
end

