-- ==== Sys2Proof/Tests/Slice0.lean ====
section
/-! SUPPORT. Tests by evaluation: the ill-formed commands that the checks refuse, the figures of spec/'s worked examples, and
for each statement with hypotheses a state and operands that meet them. -/

set_option maxRecDepth 100000

namespace Sys2Proof.Tests

open Sys2Proof Sys2Proof.Machine Sys2Proof.Safety

/-! ## A station to test on -/

/-- The state a command leads to. -/
def after (c : Instr) (s : State) : State :=
  match exec c s with
  | .next t => t
  | .fault _ | .refused _ => s

/-- A level curve: one flow at every head from −7,000 mm on. -/
def levelCurve (q : Int) : Vector CurvePoint 8 :=
  #v[⟨-7000, q⟩, ⟨0, q⟩, ⟨1000, q⟩, ⟨2000, q⟩, ⟨3000, q⟩, ⟨4000, q⟩, ⟨5000, q⟩, ⟨6000, q⟩]

/-- A pump with a level curve. -/
def levelPump (q : Int) (o : OverheatPolicy) : PumpSettings := { curve := levelCurve q, overheat := o }

/-- The Bay Map of the chapters' examples, with I14 UNMAPPED. -/
def bayMap : Vector (Option MapEntry) 16 :=
  #v[some ⟨0, #v[true, false, false, false]⟩, some ⟨0, #v[true, true, false, false]⟩,
    some ⟨0, #v[false, true, false, false]⟩, some ⟨0, #v[false, true, true, false]⟩,
    some ⟨1, #v[true, false, true, false]⟩, some ⟨2, #v[true, false, false, false]⟩, some ⟨1, #v[false, false, true, false]⟩,
    some ⟨1, #v[true, false, false, false]⟩, none, some ⟨1, #v[false, true, false, false]⟩,
    some ⟨1, #v[false, false, true, false]⟩, none, none, none, none, none]

/-- The settings of the test station: address 7 in group 0, every district enabled and critical with every report event,
feeder limit 3. -/
def settings : Settings :=
  { builtInSettings with
    address := 7, groups := 1, acceptAll := true, bayMap := bayMap, feeder := 3,
    districts := Vector.replicate 4 { enabled := true, critical := true, mask := 0x03FF, interval := 300 },
    pumps :=
      #v[levelPump 1099 .trip, levelPump 1120 .rundown, levelPump 1400 .trip, levelPump 700 .trip, levelPump 1300 .trip,
        levelPump 1250 .trip],
    bays := Vector.replicate 3 { startLevel := -1800, stopLevel := -2500, loss := 300 },
    gauges :=
      #v[{ kind := .range, mount := 9000, span := 10000, trim := 0 }, { kind := .depth, mount := -3000, span := 5000, trim := 0 },
        { kind := .depth, mount := -3000, span := 5000, trim := 0 },
        { kind := .depth, mount := -3000, span := 5000, trim := 0 }] }

/-- Plan 51 of chapter 11, with a second phase of ceiling 2,000 L/s. -/
def plan51 : Plan :=
  { number := 51,
    entries :=
      [{ duration := 180, ceiling := 3000, allowance := 1000, weights := #v[7, 3, 1, 0], runCap := 500 },
        { duration := 60, ceiling := 2000, allowance := 4000, weights := #v[7, 3, 1, 0], runCap := 0 }] }

/-- A gauge record that has read one level. -/
def reading (x : Int) : GaugeRecord := { window := [x], holdCount := 0, condition := .ok }

/-- A pump in a state, with nothing in its record and its timer stopped. -/
def pump (x : PumpState) : Pump :=
  { state := x, primary := none, noted := [], hold := false, timer := .stopped, pulse := none }

/-- A port that takes every report event. -/
def port : Port := { State.reset.ports[0] with mask := 0x03FF, interval := 300, timer := some 300 }

/-- The station of the example of chapter 6: D0 holds B0 under grant 7 and D1 holds B1 under grant 8, P0 lifts, P1 to P3 are
PRIMED. D1's portion 9 / B0 waits. -/
def station : State :=
  { State.reset with
    loader := { station := .running, held := false, source := some .memory, image := none, sampled := true },
    settings := settings,
    plans := { banks := #v[some plan51, none], active := 0, adoption := .auto },
    pins := { State.reset.pins with running := #v[true, false, false, false, false, false] },
    gauges :=
      { records := #v[reading 4200, reading (-1501), reading (-1501), reading (-1501)], stage := none, source := .gauge,
        river := some 4200, headBlind := false, heads := Vector.replicate 3 (some 6001) },
    meter :=
      { flows := #v[some 1099, some 1120, some 1400, some 700, some 1300, some 1250],
        runSeconds := #v[4000, 300, 0, 50, 0, 0], volumes := #v[0, 0, 0], sampledAt := none },
    accounts :=
      { districts := #v[⟨1000000, 0, 0⟩, ⟨900000, 0, 0⟩, ⟨0, 0, 0⟩, ⟨0, 0, 0⟩], station := 0, exhausted := false },
    orders :=
      { State.reset.orders with
        districts :=
          #v[{ table := [⟨3, .routine, 2000, [0]⟩], queue := [⟨3, .routine, 0, 2000, [0, 1], 0, .inService⟩], finished := [] },
            { table := [⟨9, .routine, 300, [0]⟩, ⟨8, .routine, 900, [1]⟩],
              queue := [⟨9, .routine, 0, 300, [1, 3], 0, .pending⟩, ⟨8, .routine, 1, 900, [9], 0, .inService⟩],
              finished := [] },
            { table := [], queue := [], finished := [] }, { table := [], queue := [], finished := [] }] },
    arbiters := { bays := #v[⟨some ⟨0, 3, 7, 0, true⟩, 0⟩, ⟨some ⟨1, 8, 8, 0, false⟩, 1⟩, ⟨none, 3⟩], counter := 9 },
    roster := { stagger := none, outstanding := none, numbers := #v[some 1, none, none, none, none, none], counter := 2,
                heldCeiling := 3000 },
    pumps := #v[pump .lifting, pump .primed, pump .primed, pump .primed, pump .idle, pump .idle],
    gates := State.reset.gates.set 0 { state := .opened, timer := none },
    ports := Vector.replicate 4 port }

/-- The station with one pump in another state. -/
def withPump (p : PumpId) (q : Pump) (s : State := station) : State := s.setPump p q

/-- The station with the body of a notice addressed to it: destination STATION, address 7. -/
def toStation (rest : List Byte) : List Byte := 0 :: 7 :: rest

/-! ## Commands that are not well formed -/

/-- Table 2-1: no loop gives a count above 4,095. -/
theorem wf_refuses_count_4096 : Instr.wellFormed (.sample (.count 4096) .loopOpen .loopOpen .loopOpen) = false := by decide

/-- Section 9.2: no envelope holds 92 bytes. -/
theorem wf_refuses_body_92 : Instr.wellFormed (.lift 0 ⟨.a, .now⟩ (List.replicate 92 0)) = false := by decide

/-- Section 9.2, on the river line. -/
theorem wf_refuses_notice_92 : Instr.wellFormed (.plan (List.replicate 92 0)) = false := by decide

/-- R167: a MARK of the right length is no unknown notice. -/
theorem wf_refuses_known_notice : Instr.wellFormed (.unknownNotice 0x12 [0, 7]) = false := by decide

/-- Table 9-7: kind 1 is LIFT. -/
theorem wf_refuses_known_frame : Instr.wellFormed (.unknownFrame 0 ⟨.a, .now⟩ 1 []) = false := by decide

/-- The image of the tests: the built-in defaults as an image would hold them, with a plan of one phase. -/
def image : Image :=
  { address := 7, groups := 1, acceptAll := false, bitRate := some .b19200,
    districts := Vector.replicate 4 { enabled := true, critical := true, mask := 0x00C4, interval := 300 },
    bayMap := Vector.replicate 16 { mapped := false, bay := none, owners := #v[false, false, false, false] },
    pumps := Vector.replicate 6 { curve := builtInCurve, overheat := some .trip },
    bays := Vector.replicate 3 { startLevel := 0, stopLevel := -500, loss := 0 },
    gauges := Vector.replicate 4 { kind := some .depth, mount := 0, span := 10000, trim := 0 },
    limits :=
      { selfCheck := 30, prime := 180, primeHold := 900, startConfirm := 10, rundown := 60, travel := 120, feeder := 2,
        stagger := 20, shedMargin := 100, freshness := 600 },
    mode := .tracking, earlyMark := .restart, adoption := .auto,
    plan := { number := 0, phaseCount := 1, entries := Vector.replicate 4 zeroEntry } }

/-- A source that answers with the marker and these payload and checksum. -/
def source (payload : List Byte) (checksum : BitVec 16) : SourceRead :=
  { answers := true, marker := 0x4D36, payload := payload, checksum := checksum, whole := true, image := image }

/-- A fuse block that was never programmed. -/
def blank : SourceRead := { source [] 0 with answers := false }

/-- Tables 1-2 and 9-6: a weight has four bits. -/
theorem wf_refuses_weight_16 :
    Instr.wellFormed
      (.imageReadComplete
        { blank with
          image := { image with plan := { image.plan with entries := Vector.replicate 4 { zeroEntry with weights := #v[16, 0, 0, 0] } } } }
        blank) = false := by decide

/-- Table 1-1: a plan number has two bytes. -/
theorem wf_refuses_plan_number_65536 :
    Instr.wellFormed
      (.imageReadComplete blank { blank with image := { image with plan := { image.plan with number := 65536 } } }) = false := by
  decide

/-- R166: an address is one byte. -/
theorem wf_refuses_address_256 :
    Instr.wellFormed (.imageReadComplete { blank with image := { image with address := 256 } } blank) = false := by decide

/-- A command that is well formed: the blank memory above with a good fuse block. -/
theorem wf_accepts_blank : Instr.wellFormed (.imageReadComplete blank blank) = true := by decide

/-! ## Worked figures of spec/ -/

/-- The CRC that R158 describes gives its known check value over the ASCII digits 1 to 9 (the value is general knowledge, not
spec/'s). -/
theorem test_crc_check_value : crc16 [0x31, 0x32, 0x33, 0x34, 0x35, 0x36, 0x37, 0x38, 0x39] = 0x29B1 := by decide

/-- Section 2.9: 4,200 mm, −1,501 mm, 9,000 mm at the rail, and 12,663 mm clamped, the last two SATURATED. -/
theorem test_levels :
    levelOf settings.gauges[0] 1966 = 4200 ∧ saturates settings.gauges[0] 1966 = false
    ∧ levelOf settings.gauges[1] 1228 = -1501 ∧ levelOf settings.gauges[0] 0 = 9000 ∧ saturates settings.gauges[0] 0 = true
    ∧ unclampedLevel { kind := .depth, mount := 9000, span := 5000, trim := 0 } 3000 = 12663
    ∧ levelOf { kind := .depth, mount := 9000, span := 5000, trim := 0 } 3000 = 10000
    ∧ saturates { kind := .depth, mount := 9000, span := 5000, trim := 0 } 3000 = true := by decide

/-- The curve of section 2.9. -/
def curve : Vector CurvePoint 8 :=
  #v[⟨0, 2400⟩, ⟨1000, 2350⟩, ⟨2000, 2250⟩, ⟨3000, 2100⟩, ⟨4000, 1900⟩, ⟨5000, 1600⟩, ⟨6000, 1100⟩, ⟨7000, 0⟩]

/-- Section 2.9: the flow at each head of its table, and at the heads of the stage example. -/
theorem test_flows :
    curveValid curve = true ∧ [-400, 4600, 6000, 6001, 6999, 7000, 7300, 5951, 6101].map (flowAt curve) =
      [2400, 1720, 1100, 1099, 2, 0, 0, 1125, 989] := by decide

/-- Section 2.9: the window of four is floored to −1,501; −1,490 pushes out the oldest. -/
theorem test_smoothing :
    GaugeRecord.level { window := [-1501, -1498, -1505, -1497], holdCount := 0, condition := .ok } = some (-1501)
    ∧ joinWindow [-1501, -1498, -1505, -1497] (-1490) = [-1498, -1505, -1497, -1490]
    ∧ GaugeRecord.level { window := [-1498, -1505, -1497, -1490], holdCount := 0, condition := .ok } = some (-1498) := by
  decide

/-- Section 2.9: the fourth consecutive LOOP OPEN fails the gauge. -/
theorem test_fourth_loop_open_fails :
    GaugeRecord.read settings.gauges[1] { window := [-1498], holdCount := 3, condition := .holding } .loopOpen =
      { window := [], holdCount := 3, condition := .failed } := by decide

/-- Chapter 3: the shares of 1,000 m³ by weights 7, 3, 1, 0, and the credit that saturates. -/
theorem test_replenish :
    [0, 1, 2, 3].map (shareOf (plan51.entry 0)) = [636363, 272727, 90909, 0]
    ∧ raiseCredit 99800000 636363 = 100000000 := by decide

/-- Chapter 4: the kept list of the example. -/
def kept : List (IntakeId × BayId) := [(2, 0), (9, 1), (3, 0)]

/-- Chapter 4: statuses, kept list and split of the example. -/
theorem test_split :
    station.decodeIntakes 1 [] [2, 9, 3, 2, 14, 5] = ([.ok, .ok, .ok, .duplicate, .unmapped, .notOwner], kept)
    ∧ (splitOrder 5 .routine 1000 kept).map (fun p => (p.bay, p.target, p.intakes)) = [(0, 667, [2, 3]), (1, 333, [9])] := by
  decide

/-- Chapter 6: P1 starts at second 20; once it lifts P2 is skipped and P3 starts; a sum of 3,110 L/s sheds P3 and one of
3,100 L/s sheds nothing. -/
theorem test_admission_and_shed :
    station.pickStart [] = some 1 ∧ (withPump 1 (pump .lifting)).pickStart [] = some 3
    ∧ (station.withMeter { station.meter with flows := #v[some 1150, some 1170, none, some 790, none, none] }).shedPump
        [0, 1, 3] = [0]
    ∧ ((station.withMeter { station.meter with flows := #v[some 1150, some 1170, none, some 790, none, none] }).withRoster
        { station.roster with numbers := #v[some 1, some 2, none, some 3, none, none] }).shedPump [0, 1, 3] = [3]
    ∧ (station.withMeter { station.meter with flows := #v[some 1150, some 1160, none, some 790, none, none] }).shedPump
        [0, 1, 3] = [] := by decide

/-- Chapter 3, first row: a sample charges the flow of the one pump that lifts to the district and the station. -/
theorem test_sample_charges :
    (after (.sample (.count 1966) (.count 1228) (.count 1228) (.count 1228)) station).accounts =
      { districts := #v[⟨998901, 1099, 1099⟩, ⟨900000, 0, 0⟩, ⟨0, 0, 0⟩, ⟨0, 0, 0⟩], station := 1099, exhausted := false } := by
  decide

/-- R43: samples are a second apart, so a sample after one at second 9 stands at second 10 or later (the model's choice,
notes/assumptions/16.md). -/
theorem test_sample_second :
    station.sampleSecond = 0 ∧ (station.withMeter { station.meter with sampledAt := some 9 }).sampleSecond = 10
    ∧ ((station.withMeter { station.meter with sampledAt := some 9 }).withSecond 40).sampleSecond = 40 := by decide

/-- Chapter 5: at the run cap D1's greater credit takes B0 by handover as the next grant; at equal credits the tie falls to
the first district after the pointer, D1. -/
theorem test_run_cap_handover :
    let capped := (station.setGrant 0 (some ⟨0, 3, 7, 501494, true⟩)).setAccount 0 ⟨498506, 0, 0⟩
    let level := (capped.setAccount 0 ⟨700000, 0, 0⟩).setAccount 1 ⟨700000, 0, 0⟩
    (capped.testGrant capped [] 0 true).grantOf 0 = some ⟨1, 9, 9, 0, false⟩
    ∧ ((level.testGrant level [] 0 true).grantOf 0).map Grant.district = some 1 := by decide

/-- The station with D0 holding B0 and B1 for its orders 5 and 3, of which 3 was accepted first; a sample finds both targets
reached. -/
def twoOrders : State :=
  ((station.setOrders 0
      { table := [⟨3, .routine, 1, [1]⟩, ⟨5, .routine, 1, [0]⟩],
        queue := [⟨3, .routine, 1, 1, [4], 1000, .inService⟩, ⟨5, .routine, 0, 1, [0], 1000, .inService⟩], finished := [] }).setGrant
    0 (some ⟨0, 5, 7, 0, true⟩)).setGrant 1 (some ⟨0, 3, 8, 0, false⟩)

/-- R74: orders of one district that end at one sample end in the order in which they were accepted, whatever their bays. -/
theorem test_orders_end_in_acceptance_order :
    (after (.sample (.count 1966) (.count 1228) (.count 1228) (.count 1228)) twoOrders).ports[(0 : DistrictId)].queue.filterMap
      (fun e => match e with
        | .orderDone f => some f.tag
        | .reply _ | .report _ => none) = [3, 5] := by decide

/-- The station with B0 a millimetre below its stop level, its portion's gates OPEN, and a river gauge that fails at the next
LOOP OPEN. `blind` says that the station is head-blind already. -/
def low (blind : Bool) : State :=
  (station.withGates ((station.gates.set 0 { state := .opened, timer := none }).set 1 { state := .opened, timer := none })).withGauges
    { station.gauges with
      records := #v[{ window := [4200], holdCount := 3, condition := .holding }, reading (-2501), reading (-1501), reading (-1501)],
      headBlind := blind }

/-- R93, R101: B0 drains at a sample with a river level and at the first sample of head-blind, with D1 taking the bay; at a
later sample of head-blind it does not (notes/assumptions/25.md). -/
theorem test_drained_and_head_blind :
    ((after (.sample (.count 1966) (.count 409) (.count 1228) (.count 1228)) (low false)).grantOf 0).map Grant.district = some 1
    ∧ ((after (.sample .loopOpen (.count 409) (.count 1228) (.count 1228)) (low false)).grantOf 0).map Grant.district = some 1
    ∧ ((after (.sample .loopOpen (.count 409) (.count 1228) (.count 1228)) (low true)).grantOf 0).map Grant.district = some 0 := by
  decide

/-- R146: a sample that moves the timebase on by a second counts the travel timers by it. -/
theorem test_sample_counts_travel :
    (after (.sample (.count 1966) (.count 1228) (.count 1228) (.count 1228))
      ((station.setGate 5 { state := .opening, timer := some 120 }).withMeter { station.meter with sampledAt := some 0 })).gates[(5 : IntakeId)] =
      { state := .opening, timer := some 119 } := by decide

/-- Chapter 8: the jam of a travelling gate sets its flags and closes no grant whose portion keeps an intake. -/
theorem test_jam :
    ((after (.travelLimitExpiry 1) (station.setGate 1 { state := .opening, timer := some 0 })).gates[(1 : IntakeId)]).state = .jammed
    ∧ (after (.travelLimitExpiry 1) (station.setGate 1 { state := .opening, timer := some 0 })).orders.faulted[(1 : IntakeId)] = true
    ∧ (after (.travelLimitExpiry 1) (station.setGate 1 { state := .opening, timer := some 0 })).grantOf 0 = station.grantOf 0
    ∧ (after (.travelLimitExpiry 1) (station.setGate 1 { state := .opening, timer := some 0 })).river.flags = 0x20 := by decide

/-- R150: a travel limit expiry taken after a reversal, which restarted the timer, does not happen. -/
theorem test_travel_restarted :
    after (.travelLimitExpiry 1) (station.setGate 1 { state := .closing, timer := some 120 }) =
      station.setGate 1 { state := .closing, timer := some 120 } := by decide

/-- Chapter 8: GATE CLEAR of I1, which D0's portion in service names, opens it again with the full limit. -/
theorem test_gate_clear_reopens :
    (after (.gateClear (toStation [1]))
      ((station.setGate 1 { state := .jammed, timer := none }).withPins
        { station.pins with atShut := Vector.replicate 16 false })).gates[(1 : IntakeId)] =
      { state := .opening, timer := some 120 } := by decide

/-- Chapter 7: FEEDER OK false puts SUPPLY before a noted OVERHEAT, and a return of the supply promotes it. -/
theorem test_supply_heads_the_record :
    (after .feederOkFalse (withPump 5 { pump .fault with primary := some .overheat })).pumps[(5 : PumpId)].kinds =
      [.supply, .overheat]
    ∧ (after .feederOkTrue (after .feederOkFalse (withPump 5 { pump .fault with primary := some .overheat }))).pumps[(5 : PumpId)].kinds =
      [.overheat] := by decide

/-- Chapter 7: HOLD of a LIFTING pump begins a rundown and the pump loses its start number. -/
theorem test_hold_runs_down :
    (after (.hold (toStation [0])) station).pumps[(0 : PumpId)] =
      { pump .rundown with hold := true, timer := .running 60 }
    ∧ (after (.hold (toStation [0])) station).roster.numbers[(0 : PumpId)] = none := by decide

/-- The station with P4 as given, READY and HOT as given, beside P5 HELD: only P4 could serve B2, which is FREE. -/
def lastOfBay (q : Pump) (hot : Bool) : State :=
  withPump 4 q (withPump 5 (pump .held) ((station.setReady 4 true).setHot 4 hot))

/-- R86, R124: a state that the pump only passes through reaches its arbiter. A HOT pump released, and a prime fault that clears in
the same event, raise BAY_UNSERVED although the bay stands after it as before. -/
theorem test_passing_states_reach_the_arbiter :
    (let t := after (.release (toStation [4])) (lastOfBay { pump .held with hold := true } true)
     t.pumps[(4 : PumpId)].kinds = [.overheat] ∧ t.ports[(0 : DistrictId)].flags &&& ReportEvent.bayUnserved.bit ≠ 0)
    ∧ (let t := after (.primeLimitExpiry 4) (lastOfBay (pump .priming) false)
       t.pumps[(4 : PumpId)].state = .idle ∧ t.ports[(0 : DistrictId)].flags &&& ReportEvent.bayUnserved.bit ≠ 0) := by
  decide

/-- R107, R116: a sample calls the IDLE pump of a bay that is GRANTED above its start level. -/
theorem test_sample_calls :
    (after (.sample (.count 1966) (.count 1228) (.count 1228) (.count 1228)) (withPump 1 (pump .idle))).pumps[(1 : PumpId)] =
      { pump .priming with timer := .running 180 } := by decide

/-- The station with P0 IDLE and P1 PRIMED in the bay that D0 holds: P0 was not called when it entered IDLE. -/
def uncalled : State := (withPump 0 (pump .idle)).withRoster { station.roster with numbers := Vector.replicate 6 none }

/-- R107: when P1 enters IDLE, the Roster calls P0 of the same GRANTED bay too, which stood in IDLE. -/
theorem test_entry_to_idle_calls_every_idle_pump :
    (after (.primeHoldExpiry 1) uncalled).pumps[(0 : PumpId)] = { pump .priming with timer := .running 180 }
    ∧ (after (.primeHoldExpiry 1) uncalled).pumps[(1 : PumpId)] = { pump .priming with timer := .running 180 } := by decide

/-- The station with P0, P1 and P2 LIFTING, 3,619 L/s in all over a ceiling of 3,000 L/s, and this shed margin. P2 started last. -/
def crowded (margin : Nat) : State :=
  (((withPump 1 (pump .lifting) (withPump 2 (pump .lifting))).withPins
      { station.pins with running := #v[true, true, true, false, false, false] }).withRoster
    { station.roster with numbers := #v[some 1, some 2, some 3, none, none, none], counter := 4 }).withSettings
    { settings with shedMargin := margin }

/-- R120: a sample sheds P2 at a margin of 618 L/s and nothing at 619 L/s. -/
theorem test_sample_sheds :
    ((after (.sample (.count 1966) (.count 1228) (.count 1228) (.count 1228)) (crowded 618)).pumps[(2 : PumpId)]).state = .rundown
    ∧ ((after (.sample (.count 1966) (.count 1228) (.count 1228) (.count 1228)) (crowded 619)).pumps[(2 : PumpId)]).state = .lifting := by
  decide

/-- The station at the end of its first phase with a portion of D2 waiting for B2, FREE and serviceable, P4's line PRIMED as
given. -/
def waiting : State :=
  ((station.setOrders 2
      { table := [⟨5, .routine, 10, [2]⟩], queue := [⟨5, .routine, 2, 10, [5], 0, .pending⟩], finished := [] }).withSequencer
    { station.sequencer with elapsed := 10800 })

/-- R13, R54, R88, R102, R107: the boundary into phase 1 replenishes from its 4,000 m³, and grants B2 to the portion that waits:
IN SERVICE, its intake opened, the pointer at D2, GRANT_START, and P4 called. -/
theorem test_boundary_grants :
    let t := after .durationExpiry waiting
    t.accounts.districts[(0 : DistrictId)].credit = 1000000 + 2545454
    ∧ (t.grantOf 2).map Grant.district = some 2 ∧ t.arbiters.bays[(2 : BayId)].pointer = 2
    ∧ (t.portion 2 5 2).map Portion.state = some .inService ∧ t.gates[(5 : IntakeId)].state = .opening
    ∧ t.ports[(2 : DistrictId)].flags &&& ReportEvent.grantStart.bit ≠ 0 ∧ t.pumps[(4 : PumpId)].state = .priming := by
  decide

/-- The station with intake 0 faulted and the gate of intake 1 at its travel limit: D0's portion in service loses its last intake.
-/
def jamming : State :=
  (station.setFaulted 0 true).setGate 1 { state := .opening, timer := some 0 }

/-- R79, R99: the jam ends the portion GATE_FAULT, its order with it, and the bay passes to D1's portion, whose intake 3 is left. -/
theorem test_jam_ends_portion :
    let t := after (.travelLimitExpiry 1) jamming
    (t.grantOf 0).map (fun g => (g.district, g.tag)) = some (1, 9)
    ∧ TxEntry.orderDone
        { tag := 3, cls := .routine, portions := [{ bay := 0, target := 2000, outcome := .gateFault, lifted := 0 }] } ∈
      t.ports[(0 : DistrictId)].queue := by
  decide

/-- Table 2-1: 3,599 µA is LOOP OPEN, 3,600 and 4,000 µA give 0, 20,000 µA gives 4,095; 7,125 µA lies 3,125 / 16,000 of the span up,
on no step, between 799 and 800. -/
theorem test_loop_currents :
    [3599, 3600, 4000, 20000, 24000].map (fun i => rawCount (.current i)) = [none, some 0, some 0, some 4095, some 4095]
    ∧ (rawCount (.current 7125) = some 799 ∨ rawCount (.current 7125) = some 800) := by
  refine ⟨by decide, ?_⟩
  simp only [rawCount]
  split <;> simp_all
  omega

/-- R3, R177: numbers outside their ranges are taken at the nearer bound, and a phase count outside 1 to 4 brings the built-in
default plan. -/
theorem test_held_to_range :
    [0, 1, 254, 255].map (fun n => (takeSettings { image with address := n }).address) = [1, 1, 254, 254]
    ∧ [0, 1, 4, 5].map (fun n => (takePlan { image.plan with number := 9, phaseCount := n }).entries.length) = [1, 1, 4, 1]
    ∧ [0, 1, 4, 5].map (fun n => (takePlan { image.plan with number := 9, phaseCount := n }).number) = [0, 9, 9, 0] := by
  decide

/-- Section 1, example: a MARK in the last phase swaps a staged plan in. -/
theorem test_mark_swaps :
    (after (.mark [1, 0]) (station.withPlans { station.plans with banks := #v[some builtInPlan, some plan51] })).plans =
      { banks := #v[none, some plan51], active := 1, adoption := .auto } := by decide

/-- Table 9-6: a plan of one phase as its body gives it, each field with a value of its own, a weight in each half byte. -/
theorem test_plan_body_fields :
    readPlan [0x01, 0x02, 1, 0x00, 0xB4, 0x0B, 0xB8, 0x00, 0x01, 0x02, 0x03, 0x73, 0x1F, 0x01, 0xF4] =
      some
        { number := 258,
          entries := [{ duration := 180, ceiling := 3000, allowance := 66051, weights := #v[7, 3, 1, 15], runCap := 500 }] } := by
  decide

/-- Chapter 10: the station report has the lengths of Table 10-3 and a STATUS REPORT those of Table 9-4. -/
theorem test_status_report_fields :
    (station.statusReport 0).take 12 = [0, 0, 2, 0, 0xFF, 0, 51, 0, 0, 0, 0x00, 0x0F] ∧ (station.statusReport 0).length = 43 := by
  decide

/-- R158, Table 9-1: the envelope of a STATION REPLY that answers a MARK with DONE. -/
theorem test_answer_envelope :
    ({ kind := kindMark, outcome := .done, sections := [] } : Answer).notices 7 =
      [[0xA5, 5, 0x91, 2, 0, 7, 0x12, 0] ++ fieldBE 2 (crc16 [5, 0x91, 2, 0, 7, 0x12, 0]).toNat] := by decide

/-! ## States that meet the hypotheses of the statements -/

/-- EmptyQueueRunsTimers: an expiry due, a held station, a live one and one that is not live with nothing due. -/
theorem witness_empty_queue :
    station.pending = [] ∧ (station.withRoster { station.roster with stagger := some 0 }).due.head? = some .staggerExpiry
    ∧ State.reset.pending = [] ∧ State.reset.due = [] ∧ State.reset.loader.held = true
    ∧ station.due = [] ∧ station.loader.held = false ∧ station.isLive
    ∧ ¬(station.setStation .halted).isLive ∧ (station.setStation .halted).due = [] := by decide

/-- A station that waits for its image. -/
def loading : State := State.reset.withLoader { State.reset.loader with held := false }

/-- ImageReadChoosesSourceAndStartsChecking: LOADING and released; a good memory, a bad one, a good fuse block, none; and a pump
that waits for READY. -/
theorem witness_image_read :
    loading.loader.station = .loading ∧ loading.loader.held = false
    ∧ chooseImage (source [1] (crc16 [1])) blank = .image .memory image ∧ chooseImage (source [1] 0) blank = .halted
    ∧ chooseImage blank (source [1] (crc16 [1])) = .image .fuse image ∧ chooseImage blank (source [1] 0) = .builtIn
    ∧ loading.pumps[(0 : PumpId)].state = .offline ∧ loading.pins.ready[(0 : PumpId)] = false := by decide

/-- The portions of the test station have names of their own, and of those of these stations too. -/
theorem witness_portions_named : PortionsNamed station ∧ PortionsNamed twoOrders ∧ PortionsNamed (low true) :=
  ⟨by unfold PortionsNamed; decide, by unfold PortionsNamed; decide, by unfold PortionsNamed; decide⟩

/-- No pump that serves is HOT or held at the test station. -/
theorem witness_serving_pumps : ServingPumpsSound station := by unfold ServingPumpsSound; decide

/-- A station that checks, with P4 as given. -/
def checking (q : Pump) : State := (withPump 4 q).setStation .checking

/-- The three statements of SAMPLE: a station that is not live, one that runs with sound accounts, one that checks with a pump
OFFLINE and one with none. -/
theorem witness_sample :
    ¬State.reset.isLive ∧ station.isLive ∧ station.loader.station = .running ∧ AccountsSound station
    ∧ ((checking (pump .offline)).isLive ∧ (checking (pump .offline)).pumps[(4 : PumpId)].state = .offline)
    ∧ ((checking (pump .idle)).isLive ∧ ∀ p : PumpId, (checking (pump .idle)).pumps[p].state ≠ .offline) :=
  ⟨by decide, by decide, by decide, by unfold AccountsSound; decide, by decide, by decide⟩

/-- SampleStopsDryAndBlindPumps: a sound station with a grant whose portion is IN SERVICE and reaches its target, one whose
portion drains, and one that is at its run cap, with a candidate that waits. -/
theorem witness_arbiter_tests :
    (PortionsNamed station ∧ ServingPumpsSound station ∧ FaultRecordsSound station)
    ∧ (∀ s ∈ [station, low false],
        s.grantOf 0 = some ⟨0, 3, 7, 0, true⟩ ∧ (s.portion 0 3 0).map Portion.state = some .inService
        ∧ s.service 0 = .serviceable ∧ (s.candidate 1 0).isSome = true)
    ∧ (twoOrders.portion 0 5 0).map Portion.reached = some true
    ∧ (0 < station.governing.runCap ∧ station.capReached ⟨0, 3, 7, 500000, true⟩ = true
      ∧ station.capReached ⟨0, 3, 7, 499999, true⟩ = false) :=
  ⟨⟨witness_portions_named.1, witness_serving_pumps, by unfold FaultRecordsSound; decide⟩, by decide, by decide, by decide⟩

/-- SampleStopsDryAndBlindPumps: three pumps that run above ceiling and margin, within the feeder limit, and an IDLE pump of a bay
GRANTED above its start level. -/
theorem witness_shed_and_calls :
    (PortionsNamed (crowded 618) ∧ ServingPumpsSound (crowded 618) ∧ FaultRecordsSound (crowded 618)
      ∧ RunningPumpsBounded (crowded 618) ∧ (crowded 618).loader.station = .running)
    ∧ (PortionsNamed (withPump 1 (pump .idle)) ∧ ServingPumpsSound (withPump 1 (pump .idle))
      ∧ FaultRecordsSound (withPump 1 (pump .idle)) ∧ (withPump 1 (pump .idle)).pins.feederOk = true
      ∧ ((withPump 1 (pump .idle)).grantOf (bayOf 1)).isSome = true ∧ (withPump 1 (pump .idle)).aboveStart (bayOf 1) = true) :=
  ⟨⟨witness_portions_named.1, by unfold ServingPumpsSound; decide, by unfold FaultRecordsSound; decide,
      by unfold RunningPumpsBounded; decide, by decide⟩,
    ⟨witness_portions_named.1, by unfold ServingPumpsSound; decide, by unfold FaultRecordsSound; decide, by decide, by decide,
      by decide⟩⟩

/-- What the statements of a boundary say of the bays: one FREE and serviceable with a candidate, the same without one, and one
that is GRANTED. -/
theorem witness_boundary :
    PortionsNamed waiting ∧ ServingPumpsSound waiting ∧ waiting.durationExpired ∧ waiting.accounts.exhausted = false
    ∧ waiting.grantOf 2 = none ∧ waiting.service 2 = .serviceable ∧ (waiting.candidate 2 2).isSome = true
    ∧ (∀ d : DistrictId, station.candidate d 2 = none) ∧ (waiting.grantOf 0).isSome = true :=
  ⟨by unfold PortionsNamed; decide, by unfold ServingPumpsSound; decide, by decide, by decide, by decide, by decide, by decide,
    by decide, by decide⟩

/-- StartAndShedChoices: a pump picked, none picked beside a candidate that does not fit, a shed and none. -/
theorem witness_choices :
    station.pickStart [] = some 1 ∧ (station.withSettings { settings with feeder := 1 }).pickStart [] = none
    ∧ (station.withSettings { settings with feeder := 1 }).isCandidate 1 = true
    ∧ station.shedPump [0, 1] = [] ∧ station.shedPump [0, 1, 2] = [0]
    ∧ (station.grantOf (bayOf 1)).isSome = true ∧ (station.grantOf (bayOf 2)).isSome = true := by decide

/-- SequencerTimersComplete: the duration of 180 min expires at 10,800 s and not at 10,799 s. -/
theorem witness_duration :
    (station.withSequencer { station.sequencer with elapsed := 10800 }).durationExpired
    ∧ ¬(station.withSequencer { station.sequencer with elapsed := 10799 }).durationExpired := by decide

/-- The notices' premise `Heard`, for each destination and for the bodies of two to four bytes of the statements. It reads
nothing but the station state, the settings and what the River Port sends. -/
theorem witness_heard :
    Heard station (toStation []) .station ∧ Heard station [1, 0] .group ∧ Heard station [2, 0] .all
    ∧ Heard station (toStation [0x7F, 0xFF]) .station ∧ Heard station (toStation [5]) .station :=
  ⟨by unfold Heard; decide, by unfold Heard; decide, by unfold Heard; decide, by unfold Heard; decide,
    by unfold Heard; decide⟩

/-- The PLAN bodies of 0, 1, 4 and 5 phases, and one that is cut short. -/
def planBodies : List (List Byte) :=
  [toStation [0, 51, 0], toStation ([0, 51, 1] ++ List.replicate 12 0xFF), toStation ([0, 51, 4] ++ List.replicate 48 0),
    toStation ([0, 51, 5] ++ List.replicate 60 0), toStation [0, 51]]

/-- PlanNoticeIsStagedOrRejected: every one of these bodies is heard; those of 1 and 4 phases are staged (R4). -/
theorem witness_plan_bodies :
    (∀ body ∈ planBodies, Heard station body .station)
    ∧ planBodies.map (fun body => (readPlan (body.drop 2)).isSome) = [false, true, true, false, false] :=
  ⟨by unfold Heard; decide, by decide⟩

/-- MarkNoticeFollowsModeAndPolicy: on time in the last phase, RESTART, dropped, and the two steps of STEPPED mode, each in a
state that hears the MARK. -/
theorem witness_marks :
    ((List.map fun x => { station.sequencer with phase := x.1, mode := x.2.1, earlyMark := x.2.2 })
        [(1, .tracking, .ignore), (0, .tracking, .restart), (0, .tracking, .ignore), (0, .stepped, .ignore),
          (1, .stepped, .ignore)]).map (fun q => (station.withSequencer q).markTarget) =
      [some 0, some 0, none, some 1, some 0]
    ∧ ∀ q : Sequencer, Heard (station.withSequencer q) (toStation []) .station :=
  ⟨by decide, fun _ => witness_heard.1⟩

/-- AdoptNoticeSwapsStagedPlan: heard with a plan staged and with none. -/
theorem witness_adopt :
    (station.withPlans { station.plans with banks := #v[some builtInPlan, some plan51] }).stagedPlan.isSome = true
    ∧ station.stagedPlan.isSome = false ∧ ∀ x : PlanStore, Heard (station.withPlans x) (toStation []) .station :=
  ⟨by decide, by decide, fun _ => witness_heard.1⟩

/-- The station is calm, in the sense of the statements' premise, and stays so when its pumps and ports are changed. -/
theorem witness_calm : Calm station := by
  refine ⟨by decide, ?_, by decide⟩
  intro b
  match b with
  | 0 | 1 | 2 => decide

/-- PinAndUnpinNotices: a pin that changes the ceiling, one that does not, a pin to clear, at phases 3 and 4; and the entry that
governs without a pin, and with one past the plan's last phase. -/
theorem witness_pin :
    (station.setPin (some 1)).governing.ceiling = 2000 ∧ (station.setPin (some 0)).governing.ceiling = 3000
    ∧ readTarget 4 [3] = some 3 ∧ readTarget 4 [4] = none
    ∧ (station.withSequencer { station.sequencer with pin := some 3 }).sequencer.pin.isSome = true
    ∧ Heard (station.withSequencer { station.sequencer with pin := some 3 }) (toStation []) .station
    ∧ station.plans.banks[station.plans.active] = some plan51 ∧ plan51.entries[0]? = some station.governing
    ∧ plan51.entries[1]? = some (station.setPin (some 3)).governing :=
  ⟨by decide, by decide, by decide, by decide, by decide, witness_heard.1, by decide, by decide, by decide⟩

/-- A pump's records: sound, heard and calm whichever of these stands at P4. -/
def records : List Pump :=
  [pump .held, { pump .held with hold := true }, { pump .fault with primary := some .run, noted := [.overheat] },
    { pump .fault with primary := some .start }, { pump .rundown with noted := [.overheat] }, pump .starting, pump .primed]

/-- HoldNoticeTakesPumpTowardHeld, ReleaseNoticeReturnsHeldPump, ClearNoticeRemovesClearableKinds: each record is sound and
heard, and the station stays calm. -/
theorem witness_pump_notices :
    (∀ q ∈ records, FaultRecordsSound (withPump 4 q) ∧ ServingPumpsSound (withPump 4 q)) ∧ (∀ q : Pump, Heard (withPump 4 q) (toStation [5]) .station)
    ∧ (∀ q : Pump, Calm (withPump 4 q)) :=
  ⟨by unfold FaultRecordsSound ServingPumpsSound; decide, fun _ => witness_heard.2.2.2.2, fun _ => witness_calm⟩

/-- The clauses on the last pump of a bay: HELD and HOT for ReleaseNoticeReturnsHeldPump, PRIMING beside READY in a FREE bay for
LimitExpiriesFaultThePump, LIFTING for RunningLineEvents and HotTrueFollowsStateAndPolicy. -/
theorem witness_last_of_bay :
    (LastOfBay 4 (lastOfBay { pump .held with hold := true } true) ∧ FaultRecordsSound (lastOfBay { pump .held with hold := true } true)
      ∧ Heard (lastOfBay { pump .held with hold := true } true) (toStation [4]) .station
      ∧ (lastOfBay { pump .held with hold := true } true).pins.hot[(4 : PumpId)] = true)
    ∧ (LastOfBay 4 (lastOfBay (pump .priming) false) ∧ FaultRecordsSound (lastOfBay (pump .priming) false)
      ∧ ServingPumpsSound (lastOfBay (pump .priming) false) ∧ (lastOfBay (pump .priming) false).grantOf (bayOf 4) = none
      ∧ (lastOfBay (pump .priming) false).pins.ready[(4 : PumpId)] = true)
    ∧ (LastOfBay 0 (withPump 1 (pump .held)) ∧ FaultRecordsSound (withPump 1 (pump .held))
      ∧ (withPump 1 (pump .held)).pumps[(0 : PumpId)].state = .lifting ∧ (withPump 1 (pump .held)).pins.running[(0 : PumpId)] = true
      ∧ (withPump 1 (pump .held)).pins.hot[(0 : PumpId)] = false ∧ ((withPump 1 (pump .held)).grantOf 0).isSome = true) :=
  ⟨⟨by unfold LastOfBay; decide, by unfold FaultRecordsSound; decide, by unfold Heard; decide, by decide⟩,
    ⟨by unfold LastOfBay; decide, by unfold FaultRecordsSound; decide, by unfold ServingPumpsSound; decide, by decide, by decide⟩,
    ⟨by unfold LastOfBay; decide, by unfold FaultRecordsSound; decide, by decide, by decide, by decide, by decide⟩⟩

/-- ClearNoticeRemovesClearableKinds: kinds that stay and kinds that go, on P4 and on P0 whose RUNNING is true. -/
theorem witness_clear :
    station.clearableKinds 4 .start = false ∧ station.clearableKinds 4 .run = true
    ∧ (station.setHot 4 true).clearableKinds 4 .overheat = false ∧ station.clearableKinds 4 .overheat = true
    ∧ station.clearableKinds 0 .stop = false ∧ station.clearableKinds 4 .stop = true := by decide

/-- GateClearNoticeClosesOrReopens: a JAMMED gate that the portion in service names, I1, and one that it does not, I5; intake
numbers 15 and 16. -/
theorem witness_gate_clear :
    Heard (station.setGate 1 { state := .jammed, timer := none }) (toStation [1]) .station
    ∧ station.serviceNames 0 1 = true ∧ station.serviceNames 2 5 = false
    ∧ readTarget 16 [15] = some 15 ∧ readTarget 16 [16] = none :=
  ⟨by unfold Heard; decide, by decide, by decide, by decide, by decide⟩

/-- UnknownNoticesAnsweredRejected: a kind that is not STATION REPLY, in a body that is heard, and each notice of Table 9-8 in a
body that is a byte too long or too short. -/
theorem witness_unknown_kind :
    (0x55 : Byte) ≠ kindStationReply ∧ Heard station (toStation []) .station ∧ Heard station (toStation [5]) .station
    ∧ (measuredNotices (toStation [])).map (fun n => decide ((toStation []).length ≠ n.2.1 + 2)) =
      [false, true, false, true, false, true, true, true, true, false]
    ∧ (measuredNotices (toStation [5])).map (fun n => decide ((toStation [5]).length ≠ n.2.1 + 2)) =
      [true, true, true, false, true, false, false, false, false, true] :=
  ⟨by decide, witness_heard.1, witness_heard.2.2.2.2, by decide, by decide⟩

/-- NoticesNotActedOnLeaveNoTrace: each of its four clauses, the first at the longest body. -/
theorem witness_notices_not_acted_on :
    (Instr.plan (List.replicate 91 0) ∈ allNotices 0 (List.replicate 91 0) ∧ loading.loader.station = .loading)
    ∧ ((station.setStation .checking).loader.station = .checking ∧ (station.setStation .checking).river.sending = none)
    ∧ (station.loader.station = .running ∧ station.river.sending = none ∧ station.settings.accepts [0, 8] = none)
    ∧ (Instr.adopt [1, 0] ∈ stationNotices [1, 0] ∧ Heard station [1, 0] .group ∧ Destination.group ≠ .station) :=
  ⟨by decide, by decide, by decide, by decide, witness_heard.2.1, by decide⟩

/-- AnswerIsSentOrDiscarded: an answer held, sent and not yet sent, with sections and without. -/
theorem witness_answer :
    (station.holdAnswer ⟨kindPoll, .done, [[0]]⟩).river.answer = some ⟨kindPoll, .done, [[0]]⟩
    ∧ (station.holdAnswer ⟨kindPoll, .done, [[0]]⟩).river.sending = none
    ∧ (after .stationReplySend (station.holdAnswer ⟨kindMark, .done, []⟩)).river.sending.isSome = true
    ∧ (after .stationReplySend (station.holdAnswer ⟨kindMark, .done, []⟩)).river.answer = some ⟨kindMark, .done, []⟩ := by
  decide

/-- A reply that waits. -/
def waitingReply : TxEntry := replyOf .a kindLift 1 .accepted

/-- The station with this transmit queue at D0. -/
def withQueue (xs : List TxEntry) : State := station.setPort 0 { port with queue := xs }

/-- FramesAnsweredByThePortAlone: a port that transmits, to which a QUERY that comes now is lost (R157). -/
theorem witness_frame_lost :
    (after (.transmitStart 0) (withQueue [.report none])).ports[(0 : DistrictId)].sending.isSome = true
    ∧ (kindQuery, Instr.query 0 ⟨.a, .now⟩ []) ∈ districtFrames 0 .a .now 9 [] := by decide

/-- The station while D0's port transmits a STATUS REPORT. -/
def reporting : State := after (.transmitStart 0) (withQueue [.report none])

/-- R172: a QUERY taken during a STATUS REPORT's transmission is owed a report, which joins marked for its pair when the
transmission ends (R171); R165: a PORT RESET taken then ends the report owed; R157: a QUERY that comes then is lost. -/
theorem test_query_during_transmission :
    (after (.query 0 ⟨.b, .earlier⟩ []) reporting).ports[(0 : DistrictId)].owes = true
    ∧ (after (.transmitEnd 0) (after (.query 0 ⟨.b, .earlier⟩ []) reporting)).ports[(0 : DistrictId)].queue = [.report (some .b)]
    ∧ (after (.portReset 0 ⟨.a, .earlier⟩ []) (after (.query 0 ⟨.b, .earlier⟩ []) reporting)).ports[(0 : DistrictId)].owes = false
    ∧ (after (.query 0 ⟨.b, .now⟩ []) reporting).ports[(0 : DistrictId)].owes = false := by decide

/-- FramesAnsweredByThePortAlone: three replies waiting, while RUNNING and for a QUERY of CHECKING; CHECKING and HALTED
with room; and `Admitted`, which the frames' statements share, at the longest body, at two replies, and of a frame that came before
a transmission. -/
theorem witness_admitted :
    Admitted station 0 .now (List.replicate 91 0) ∧ Admitted (withQueue [waitingReply, waitingReply]) 0 .now []
    ∧ ((withQueue [waitingReply, waitingReply, waitingReply]).ports[(0 : DistrictId)].replyCount = 3
      ∧ (kindLift, Instr.lift 0 ⟨.a, .now⟩ [1]) ∈ repliedFrames 0 .a .now 9 [1])
    ∧ ((station.setStation .checking).loader.station = .checking
      ∧ (station.setStation .checking).ports[(0 : DistrictId)].replyCount < 3)
    ∧ (((withQueue [waitingReply, waitingReply, waitingReply]).setStation .checking).ports[(0 : DistrictId)].replyCount = 3
      ∧ (kindQuery, Instr.query 0 ⟨.a, .now⟩ []) ∈ districtFrames 0 .a .now 9 [])
    ∧ (Admitted reporting 0 .earlier [] ∧ reporting.ports[(0 : DistrictId)].sending.isSome = true) :=
  ⟨by unfold Admitted Received; decide, by unfold Admitted Received; decide, by decide, by decide, by decide,
    by unfold Admitted Received; decide, by decide⟩

/-- LiftChecksFollowTheTable: one body for each row of Table 4-2, row 9 on a full portion queue. -/
theorem witness_lift_rows :
    (station.withSettings { settings with districts := Vector.replicate 4 ⟨false, true, 0, 0⟩ }).judgeLift 0 [1, 0, 0, 1, 1, 0] =
      .refused .portDisabled
    ∧ station.judgeLift 0 [1, 2, 0, 1, 1, 0] = .refused .malformed ∧ station.judgeLift 0 [1, 0, 0, 0, 1, 0] = .refused .volumeZero
    ∧ (station.withSettings { settings with districts := Vector.replicate 4 ⟨true, false, 0, 0⟩ }).judgeLift 0 [1, 1, 0, 1, 1, 0] =
      .refused .classDenied
    ∧ station.judgeLift 0 [3, 0, 0, 1, 1, 0] = .refused .tagInUse ∧ station.judgeLift 0 [1, 0, 0, 1, 1, 14] = .refused .unsupported
    ∧ station.judgeLift 0 [1, 0, 0, 1, 1, 2] = .refused .notOwner
    ∧ (station.setFaulted 0 true).judgeLift 0 [1, 0, 0, 1, 1, 0] = .refused .intakeFault
    ∧ (station.setOrders 0 ⟨[], List.replicate 8 ⟨9, .routine, 0, 1, [0], 0, .pending⟩, []⟩).judgeLift 0 [1, 0, 0, 1, 1, 0] =
      .refused .queueFull
    ∧ station.judgeLift 0 [1, 0, 0, 1, 1, 0] =
      .accepted ⟨1, .routine, 1, [0]⟩ [⟨1, .routine, 0, 1, [0], 0, .pending⟩] [.ok] := by decide

/-- LiftFrameIsRefusedOrEntered: a LIFT for a FREE and serviceable bay is admitted, and granted it, in a state that meets the
premises of `witness_portions_named` and `witness_serving_pumps`. -/
theorem witness_lift_granted :
    Admitted station 0 .now [1, 0, 0, 1, 1, 5] ∧ station.grantOf 2 = none ∧ station.service 2 = .serviceable
    ∧ station.accounts.exhausted = false ∧ ((after (.lift 0 ⟨.a, .now⟩ [1, 0, 0, 1, 1, 5]) station).grantOf 2).isSome = true :=
  ⟨by unfold Admitted Received; decide, by decide, by decide, by decide, by decide⟩

/-- SplitSharesTheWholeTarget: a kept list. -/
theorem witness_kept : kept ≠ [] := by decide

/-- WithdrawFrameEndsTheOrder: each of its cases. -/
theorem witness_withdraw :
    Admitted station 0 .now [3] ∧ station.settings.districts[(0 : DistrictId)].enabled = true
    ∧ station.orders.districts[(0 : DistrictId)].isOpen 3 = true ∧ station.orders.districts[(0 : DistrictId)].isOpen 4 = false
    ∧ station.ports[(0 : DistrictId)].doneCount < 4
    ∧ (PortionsNamed (withQueue (List.replicate 4 (.orderDone ⟨9, .routine, []⟩)))
      ∧ (withQueue (List.replicate 4 (.orderDone ⟨9, .routine, []⟩))).ports[(0 : DistrictId)].doneCount = 4)
    ∧ (station.portion 0 3 0).map Portion.isEnded = some false :=
  ⟨by unfold Admitted Received; decide, by decide, by decide, by decide, by decide, ⟨witness_portions_named.1, by decide⟩, by decide⟩

/-- QueryFrameIsAnsweredByTheReport and AlwaysReportExpiryAsksForAReport: a report that waits, one in transmission beside a frame
that came before it, none; three replies that wait; and a report owed when the transmission ends. -/
theorem witness_reports :
    Admitted (withQueue [.report none]) 0 .now []
    ∧ (withQueue [waitingReply, waitingReply, waitingReply]).loader.station = .running ∧ (withQueue [.report none]).ports[(0 : DistrictId)].reportWaits = true
    ∧ (reporting.ports[(0 : DistrictId)].inTransmission.any TxEntry.isReport = true
      ∧ reporting.ports[(0 : DistrictId)].waiting.any TxEntry.isReport = false ∧ reporting.loader.station = .running
      ∧ Received reporting 0 .earlier)
    ∧ ((after (.query 0 ⟨.b, .earlier⟩ []) reporting).ports[(0 : DistrictId)].sending.isSome = true
      ∧ (after (.query 0 ⟨.b, .earlier⟩ []) reporting).ports[(0 : DistrictId)].inTransmission.any TxEntry.isReport = true
      ∧ (after (.query 0 ⟨.b, .earlier⟩ []) reporting).ports[(0 : DistrictId)].owes = true)
    ∧ (withQueue [waitingReply, waitingReply, waitingReply]).ports[(0 : DistrictId)].sending = none
    ∧ station.ports[(0 : DistrictId)].reportWaits = false ∧ 0 < station.ports[(0 : DistrictId)].interval
    ∧ station.settings.districts[(0 : DistrictId)].enabled = true :=
  ⟨by unfold Admitted Received; decide, by decide, by decide, by unfold Received; decide, by decide, by decide, by decide,
    by decide, by decide⟩

/-- SetReportFrameStoresMaskAndInterval: 3,600 s is taken and 3,601 s is MALFORMED; 0 stops the timer. -/
theorem witness_set_report :
    (after (.setReport 0 ⟨.a, .now⟩ [0, 1, 0x0E, 0x10]) station).ports[(0 : DistrictId)].timer = some 3600
    ∧ (after (.setReport 0 ⟨.a, .now⟩ [0, 1, 0x0E, 0x11]) station).ports[(0 : DistrictId)].interval = 300
    ∧ (after (.setReport 0 ⟨.a, .now⟩ [0, 1, 0, 0]) station).ports[(0 : DistrictId)].timer = none := by decide

/-- The station with no district enabled. -/
def disabled : State := station.withSettings { settings with districts := Vector.replicate 4 ⟨false, true, 0, 0⟩ }

/-- PortResetFrameClearsTheDistrict: sound queues, and a grant of D0 that has its portion; a body that is not empty; a port that
is not enabled. -/
theorem witness_port_reset :
    QueuesBounded station ∧ (∀ b : BayId, ∀ g ∈ station.grantOf b, g.district = 0 → (station.portion 0 g.tag b).isSome = true)
    ∧ (station.grantOf 0).map Grant.district = some 0 ∧ station.service 0 = .serviceable ∧ Admitted station 0 .now [] ∧ Admitted station 0 .now [1]
    ∧ (Admitted disabled 0 .now [] ∧ disabled.settings.districts[(0 : DistrictId)].enabled = false) := by
  refine ⟨by unfold QueuesBounded; decide, ?_, by decide, by decide, by unfold Admitted Received; decide, by unfold Admitted Received; decide,
    by unfold Admitted Received; decide, by decide⟩
  intro b
  match b with
  | 0 | 1 | 2 => decide

/-- ReceiverCommandsMoveOneReceiver: a receiver in HUNT that is on; one that is off; lengths 91 and 92. -/
theorem witness_receiver :
    station.loader.station ≠ .loading ∧ station.rxOff .river = false ∧ station.rxOf .river = .hunt
    ∧ (after .stationReplySend (station.holdAnswer ⟨kindMark, .done, []⟩)).rxOff .river = true
    ∧ afterHeader 91 1 = .body 91 1 ∧ afterHeader 92 1 = .hunt := by decide

/-- TransmitStartSendsTheHead and TransmitEndFreesThePlace: a head that may go out, one that is going out, and a FINISHED order
that waits for a place. -/
theorem witness_transmit :
    ((withQueue [.report none]).maySend 0 ∧ (withQueue [.report none]).ports[(0 : DistrictId)].queue = [.report none])
    ∧ ((after (.transmitStart 0) (withQueue [.report none])).ports[(0 : DistrictId)].sending.isSome = true
      ∧ (after (.transmitStart 0) (withQueue [.report none])).ports[(0 : DistrictId)].queue = [.report none])
    ∧ (TxEntry.isDone (.orderDone ⟨3, .routine, []⟩) = true
      ∧ (station.setOrders 0 ⟨[], [], [⟨3, .routine, []⟩]⟩).orders.districts[(0 : DistrictId)].finished = [⟨3, .routine, []⟩]) := by
  decide

/-- The station with the stagger timer at 0 and this feeder limit. -/
def staggered (feeder : Nat) : State :=
  (station.withRoster { station.roster with stagger := some 0 }).withSettings { settings with feeder := feeder }

/-- StaggerExpiryStartsTheChosenPump: the timer runs out beside a candidate that fits, and beside none. -/
theorem witness_stagger :
    (∀ n : Nat, Calm (staggered n) ∧ (staggered n).loader.station = .running ∧ (staggered n).roster.outstanding = none
      ∧ (staggered n).roster.stagger.isSome = true)
    ∧ (staggered 3).pickStart [] = some 1 ∧ (staggered 1).pickStart [] = none ∧ (staggered 3).pins.hot[(1 : PumpId)] = false :=
  ⟨fun _ => ⟨witness_calm, rfl, rfl, rfl⟩, by decide, by decide, by decide⟩

/-- LimitExpiriesFaultThePump: a fault that stands because READY is false, in each state whose limit faults; one that
stands beside a pump that serves under the bay's grant; and a rundown in a FREE bay with READY true. -/
theorem witness_limits :
    (FaultStands 4 (checking { pump .offline with timer := .running 0 })
      ∧ (checking { pump .offline with timer := .running 0 }).pumps[(4 : PumpId)].state = .offline
      ∧ (checking { pump .offline with timer := .running 0 }).pumps[(4 : PumpId)].timer.isRunning = true
      ∧ (checking { pump .offline with timer := .running 0 }).pins.ready[(4 : PumpId)] = false)
    ∧ (∀ q : Pump, FaultStands 4 (withPump 4 q) ∧ (withPump 4 q).pumps[(4 : PumpId)] = q)
    ∧ (FaultStands 0 (withPump 0 (pump .rundown)) ∧ (withPump 0 (pump .rundown)).pumps[(0 : PumpId)].state = .rundown
      ∧ (withPump 0 (pump .rundown)).pins.running[(0 : PumpId)] = true)
    ∧ FaultStands 0 (station.setReady 0 true)
    ∧ (FaultRecordsSound (withPump 4 (pump .rundown) ((station.setReady 4 true).setRunning 4 true))
      ∧ station.grantOf (bayOf 4) = none) :=
  ⟨⟨.inl (by decide), by decide, by decide, by decide⟩, fun _ => ⟨.inl rfl, rfl⟩,
    ⟨.inl (by decide), by decide, by decide⟩, .inr ⟨by decide, by decide, 1, by decide, by decide, by decide⟩,
    by unfold FaultRecordsSound; decide, by decide⟩

/-- PrimeHoldExpiryReturnsPumpToIdle: a PRIMED pump that is not hot, in a bay whose call could not be carried out, in a FREE one,
and in a GRANTED one beside an IDLE pump that qualifies for a call. -/
theorem witness_prime_hold :
    ((station.setFeeder false).loader.station = .running ∧ (station.setFeeder false).pumps[(1 : PumpId)].state = .primed
      ∧ (station.setFeeder false).pins.hot[(1 : PumpId)] = false ∧ NotCallable 1 (station.setFeeder false))
    ∧ ((withPump 4 (pump .primed)).pumps[(4 : PumpId)].state = .primed ∧ (withPump 4 (pump .primed)).grantOf (bayOf 4) = none)
    ∧ (ServingPumpsSound uncalled ∧ uncalled.loader.station = .running ∧ uncalled.pumps[(1 : PumpId)].state = .primed
      ∧ uncalled.pins.hot[(1 : PumpId)] = false ∧ (uncalled.grantOf 0).isSome = true ∧ uncalled.aboveStart 0 = true
      ∧ uncalled.pumps[(0 : PumpId)].state = .idle ∧ uncalled.pins.feederOk = true) :=
  ⟨⟨by decide, by decide, by decide, .inl (by decide)⟩, by decide, by unfold ServingPumpsSound; decide, by decide⟩

/-- PrimedLineEvents: PRIMED turns true in PRIMING while the stagger timer runs, false in PRIMED, false in LIFTING. -/
theorem witness_primed_line :
    ((withPump 4 (pump .priming) (staggered 3)).pins.primed[(4 : PumpId)] = false
      ∧ (withPump 4 (pump .priming) (staggered 3)).pumps[(4 : PumpId)].state = .priming
      ∧ (withPump 4 (pump .priming) (staggered 3)).roster.stagger.isSome = true)
    ∧ ((station.setPrimed 1 true).pins.primed[(1 : PumpId)] = true ∧ (station.setPrimed 1 true).pumps[(1 : PumpId)].state = .primed
      ∧ (station.setPrimed 1 true).pins.hot[(1 : PumpId)] = false)
    ∧ ((station.setPrimed 0 true).pins.primed[(0 : PumpId)] = true
      ∧ (station.setPrimed 0 true).pumps[(0 : PumpId)].state.counts = true ∧ FaultStands 0 (station.setPrimed 0 true)) :=
  ⟨by decide, by decide, by decide, by decide, .inl (by decide)⟩

/-- ReadyTrueEndsSelfCheckOrClears: a self-check of the last OFFLINE pump with a valid curve and with one that is not, and a fault in a FREE bay. -/
theorem witness_ready :
    (FaultRecordsSound (checking (pump .offline)) ∧ (checking (pump .offline)).pins.ready[(4 : PumpId)] = false
      ∧ (checking (pump .offline)).pumps[(4 : PumpId)].state = .offline ∧ (checking (pump .offline)).pins.feederOk = true
      ∧ curveValid (checking (pump .offline)).settings.pumps[(4 : PumpId)].curve = true
      ∧ ((checking (pump .offline)).loader.sampled = true
        ∧ ∀ q : PumpId, q ≠ 4 → (checking (pump .offline)).pumps[q].state ≠ .offline))
    ∧ curveValid (Vector.replicate 8 (⟨0, 0⟩ : CurvePoint)) = false
    ∧ (FaultRecordsSound (withPump 4 { pump .fault with primary := some .run })
      ∧ (withPump 4 { pump .fault with primary := some .run }).grantOf (bayOf 4) = none
      ∧ (withPump 4 { pump .fault with primary := some .run }).pins.ready[(4 : PumpId)] = false) :=
  ⟨⟨by unfold FaultRecordsSound; decide, by decide, by decide, by decide, by decide, by decide⟩, by decide,
    ⟨by unfold FaultRecordsSound; decide, by decide, by decide⟩⟩

/-- RunningLineEvents: a STARTING pump, a LIFTING one whose fault stands, and a rundown with OVERHEAT noted, held, and plain. -/
theorem witness_running_line :
    ((withPump 4 (pump .starting)).pins.running[(4 : PumpId)] = false
      ∧ (withPump 4 (pump .starting)).pumps[(4 : PumpId)].state = .starting)
    ∧ (station.pins.running[(0 : PumpId)] = true ∧ station.pumps[(0 : PumpId)].state = .lifting ∧ FaultStands 0 station)
    ∧ (∀ q ∈ [{ pump .rundown with noted := [.overheat] }, { pump .rundown with hold := true }, pump .rundown],
        (withPump 0 q).pins.running[(0 : PumpId)] = true ∧ (withPump 0 q).pumps[(0 : PumpId)].state = .rundown
        ∧ (withPump 0 q).pumps[(0 : PumpId)].primary = none) :=
  ⟨by decide, ⟨by decide, by decide, .inl (by decide)⟩, by decide⟩

/-- HotTrueFollowsStateAndPolicy: HOT false on a sound pump, under each policy, and in a FREE bay with READY true. -/
theorem witness_hot :
    (station.pins.hot[(0 : PumpId)] = false ∧ FaultRecordsSound station ∧ settings.pumps[(0 : PumpId)].overheat = .trip)
    ∧ (FaultRecordsSound (withPump 1 (pump .lifting)) ∧ settings.pumps[(1 : PumpId)].overheat = .rundown)
    ∧ (FaultRecordsSound (station.setReady 4 true) ∧ station.grantOf (bayOf 4) = none) :=
  ⟨⟨by decide, by unfold FaultRecordsSound; decide, by decide⟩, ⟨by unfold FaultRecordsSound; decide, by decide⟩,
    by unfold FaultRecordsSound; decide, by decide⟩

/-- FeederLineEvents: the supply lost while RUNNING, with READY true on a faulted pump, and while a self-check counts; regained
while RUNNING, beside an IDLE pump of the same GRANTED bay too, and while a self-check waits. -/
theorem witness_feeder :
    (FaultRecordsSound station ∧ station.pins.feederOk = true ∧ station.isLive)
    ∧ (FaultRecordsSound (withPump 0 { pump .fault with primary := some .run } (station.setReady 0 true))
      ∧ (station.setReady 0 true).pins.ready[(0 : PumpId)] = true)
    ∧ (FaultRecordsSound (checking { pump .offline with timer := .running 9 })
      ∧ (checking { pump .offline with timer := .running 9 }).isLive)
    ∧ (FaultRecordsSound (station.setFeeder false) ∧ (station.setFeeder false).pins.feederOk = false)
    ∧ (FaultRecordsSound ((checking { pump .offline with timer := .paused 9 }).setFeeder false)
      ∧ ((checking { pump .offline with timer := .paused 9 }).setFeeder false).pins.feederOk = false
      ∧ ((checking { pump .offline with timer := .paused 9 }).setFeeder false).pumps[(4 : PumpId)].timer = .paused 9)
    ∧ (ServingPumpsSound (withPump 1 { pump .fault with primary := some .supply } (uncalled.setFeeder false))
      ∧ FaultRecordsSound (withPump 1 { pump .fault with primary := some .supply } (uncalled.setFeeder false))
      ∧ (withPump 1 { pump .fault with primary := some .supply } (uncalled.setFeeder false)).service (bayOf 1) = .serviceable
      ∧ (uncalled.grantOf 0).isSome = true ∧ uncalled.pumps[(0 : PumpId)].state = .idle) :=
  ⟨⟨by unfold FaultRecordsSound; decide, by decide, by decide⟩, ⟨by unfold FaultRecordsSound; decide, by decide⟩,
    ⟨by unfold FaultRecordsSound; decide, by decide⟩, ⟨by unfold FaultRecordsSound; decide, by decide⟩,
    ⟨by unfold FaultRecordsSound; decide, by decide, by decide⟩,
    by unfold ServingPumpsSound; decide, by unfold FaultRecordsSound; decide, by decide⟩

/-- TravelLimitExpiryJamsTheGate: a gate whose travel time has run out, of an intake whose owner enables GATE_JAMMED, and one with
a second left. -/
theorem witness_travel :
    PortionsNamed (station.setGate 1 { state := .opening, timer := some 0 })
    ∧ (station.setGate 1 { state := .opening, timer := some 0 }).gates[(1 : IntakeId)].state = .opening
    ∧ (station.setGate 1 { state := .opening, timer := some 0 }).gates[(1 : IntakeId)].timer = some 0
    ∧ (station.setGate 1 { state := .opening, timer := some 1 }).gates[(1 : IntakeId)].timer ≠ some 0
    ∧ (station.setGate 1 { state := .opening, timer := some 0 }).loader.station = .running
    ∧ station.settings.owns 1 0 = true ∧ station.ports[(0 : DistrictId)].mask &&& ReportEvent.gateJammed.bit ≠ 0 :=
  ⟨witness_portions_named.1, by decide⟩

/-- A station that checks with P4 OFFLINE, no order held, and a gate at its travel limit. -/
def jammingInChecking : State :=
  ((checking (pump .offline)).withOrders State.reset.orders).setGate 1 { state := .closing, timer := some 0 }

/-- TravelLimitExpiryJamsTheGate: D0's portion in service, which loses its last intake and whose grant stands, beside D1's PENDING
one, which keeps one; and the jam of CHECKING. -/
theorem witness_jam_portions :
    (PortionsNamed jamming ∧ ServingPumpsSound jamming ∧ FaultRecordsSound jamming
      ∧ jamming.gates[(1 : IntakeId)] = { state := .opening, timer := some 0 } ∧ jamming.loader.station = .running
      ∧ (∀ j ∈ [(0 : IntakeId), 1], j = 1 ∨ jamming.orders.faulted[j] = true)
      ∧ (jamming.portion 0 3 0).map (fun p => (p.intakes, p.isEnded)) = some ([0, 1], false)
      ∧ (jamming.grantOf 0).map (fun g => (g.district, g.tag)) = some (0, 3)
      ∧ (jamming.portion 1 9 0).map (fun p => (p.intakes, p.isEnded)) = some ([1, 3], false)
      ∧ jamming.orders.faulted[(3 : IntakeId)] = false)
    ∧ (jammingInChecking.gates[(1 : IntakeId)] = { state := .closing, timer := some 0 } ∧ jammingInChecking.loader.station = .checking
      ∧ jammingInChecking.pumps[(4 : PumpId)].state = .offline ∧ jammingInChecking.reports = []
      ∧ (∀ d : DistrictId, jammingInChecking.orders.districts[d].table = [] ∧ jammingInChecking.orders.districts[d].queue = [])) :=
  ⟨⟨witness_portions_named.1, witness_serving_pumps, by unfold FaultRecordsSound; decide, by decide, by decide, by decide, by decide,
      by decide, by decide, by decide⟩, by decide⟩

/-- The jam of CHECKING: that station is calm. -/
theorem witness_jam_calm : Calm jammingInChecking := by
  refine ⟨by decide, witness_calm.2.1, by decide⟩

/-- ReadingGivesClampedLevel and SmoothedLevelIsFlooredMean: the settings and the window of section 2.9, at both rails. -/
theorem witness_reading :
    LevelInRange settings.gauges[0].mount ∧ LevelInRange (-1501) ∧ levelOf settings.gauges[0] 0 = 9000
    ∧ levelOf settings.gauges[0] 4095 = -1000 ∧ (reading (-1501)).condition ≠ .failed :=
  ⟨by unfold LevelInRange; decide, by unfold LevelInRange; decide, by decide, by decide, by decide⟩

/-- FlowFollowsTheCurve: a head in segment 0 and one in segment 6, below the first point and above the last. -/
theorem witness_curve :
    curveValid curve = true ∧ (curve[0].head ≤ 1 ∧ (1 : Int) < curve[1].head) ∧ (curve[6].head ≤ 6999 ∧ (6999 : Int) < curve[7].head)
    ∧ (-400 : Int) ≤ curve[0].head ∧ curve[7].head ≤ 7300 := by decide

/-- ArbitrationPicksGreatestCredit: B0 has a winner, with D1's candidate, and B2 has none for want of a candidate. -/
theorem witness_winner :
    (station.winner 0).map Contender.district = some 1 ∧ (station.candidate 1 0).map Portion.tag = some 9 ∧ station.winner 2 = none ∧ station.candidate 1 2 = none := by decide

/-- The invariants' step: a HOT that falls at the test station. -/
theorem witness_step : step (station.withPending [.hotFalse 0]) = .next (station.setHot 0 false) := rfl

/-- The invariants: the test station meets each, with the step above and whatever waits. -/
theorem witness_invariants :
    AccountsSound station ∧ QueuesBounded station ∧ RunningPumpsBounded station ∧ FaultRecordsSound station
    ∧ GatesSound station ∧ SettingsInRange station.settings ∧ PortionsNamed station ∧ ServingPumpsSound station :=
  ⟨by unfold AccountsSound; decide, by unfold QueuesBounded; decide, by unfold RunningPumpsBounded; decide,
    by unfold FaultRecordsSound; decide, by unfold GatesSound; decide, by unfold SettingsInRange LevelInRange; decide,
    witness_portions_named.1, witness_serving_pumps⟩

/-- The invariants over lists held in options. -/
theorem witness_plan_and_gauges : PlanInForce station ∧ GaugesBounded station := by
  refine ⟨⟨by decide, ?_, by decide, by decide⟩, ?_⟩
  · intro b
    match b with
    | 0 | 1 => simp only [PlanSized]; decide
  · intro g
    match g with
    | 0 | 1 | 2 | 3 => simp only [LevelInRange]; decide

end Sys2Proof.Tests
end

section
/-! SUPPORT. What a whole command may move: the frames of the commands' own steps, one frame for `exec`, and the induction
over `step` that an invariant goes by. -/

-- One proof after another, as in Laws: in parallel, the threads of so many outgrow the memory the check allows.
set_option Elab.async false

namespace Sys2Proof.Machine

open Sys2Proof Sys2Proof.Safety

variable {s : State} {bs : List Block}

/-- The parts that a command may move when it neither takes readings nor loads settings: all but the settings, the gauges and
the queue of waiting commands. -/
def quietParts : List Block :=
  [.second, .pins, .loader, .plans, .sequencer, .meter, .accounts, .orders, .arbiters, .roster, .pumps, .reports, .gates, .ports,
    .river]

/-- The parts that a command may move. -/
def commandParts : Instr → List Block
  | .stationReset => .settings :: .gauges :: quietParts
  | .imageReadComplete _ _ => .settings :: quietParts
  | .sample _ _ _ _ | .stage _ => .gauges :: quietParts
  | _ => quietParts

/-! ## Reactions and input lines -/

/-- What follows from a quiet change is quiet. -/
theorem State.settle_quiet {t old : State} {x : Settling} (h : OnlyTouches quietParts s t) :
    OnlyTouches quietParts s (t.settle old x) := h.andThen settle_touches (fun _ h => h)

theorem State.setReady_touches {p : PumpId} {x : Bool} : OnlyTouches [.pins] s (s.setReady p x) := withPins_touches

theorem State.setRunning_touches {p : PumpId} {x : Bool} : OnlyTouches [.pins] s (s.setRunning p x) := withPins_touches

theorem State.setPrimed_touches {p : PumpId} {x : Bool} : OnlyTouches [.pins] s (s.setPrimed p x) := withPins_touches

theorem State.setHot_touches {p : PumpId} {x : Bool} : OnlyTouches [.pins] s (s.setHot p x) := withPins_touches

theorem State.setFeeder_touches {x : Bool} : OnlyTouches [.pins] s (s.setFeeder x) := withPins_touches

theorem State.setAtOpen_touches {i : IntakeId} {x : Bool} : OnlyTouches [.pins] s (s.setAtOpen i x) := withPins_touches

theorem State.setAtShut_touches {i : IntakeId} {x : Bool} : OnlyTouches [.pins] s (s.setAtShut i x) := withPins_touches

/-! ## Samples and start-up -/

theorem State.announce_touches : OnlyTouches [.loader] s s.announce := withLoader_touches

/-- What a sample of RUNNING makes of its charges moves what the blocks move as they settle. -/
theorem State.runningSample_touches {old : State} {f : BayId → Bool} :
    OnlyTouches settleParts s (s.runningSample old f) := by
  unfold runningSample
  dsimp only
  refine OnlyTouches.andThen ?_ settle_touches (bs := settleParts)
  refine OnlyTouches.andThen ?_ (.each (fun _ _ => stopPump_touches) _ _) (bs := settleParts)
  refine OnlyTouches.andThen ?_ testGrants_touches (bs := settleParts)
  refine OnlyTouches.andThen ?_ withReports_touches (bs := settleParts)
  refine OnlyTouches.andThen ?_ takeReports_touches (bs := settleParts)
  refine OnlyTouches.andThen ?_ takeServices_touches (bs := settleParts)
  refine OnlyTouches.andThen ?_ announce_touches (bs := settleParts)
  exact endPortions_touches.andThen evaluateExhausted_touches

/-- After the Meter has taken it, a sample moves what the blocks move as they settle. -/
theorem State.sample_touches_after_metering {xs : Vector LoopInput 4} :
    OnlyTouches settleParts (s.beginSample.readGauges xs).meterSample (s.sample xs) :=
  .ite (fun _ => runningSample_touches) fun _ => announce_touches.andThen settle_touches

/-- After its readings a sample moves the Meter, and what the blocks move as they settle. -/
theorem State.sample_touches_after_reading {xs : Vector LoopInput 4} :
    OnlyTouches (.meter :: settleParts) (s.beginSample.readGauges xs) (s.sample xs) :=
  meterSample_touches.andThen sample_touches_after_metering

theorem State.sample_touches {xs : Vector LoopInput 4} :
    OnlyTouches (.second :: .gauges :: .meter :: settleParts) s (s.sample xs) :=
  (beginSample_touches.andThen readGauges_touches (ds := .second :: .gauges :: .meter :: settleParts)).andThen
    sample_touches_after_reading

theorem State.enterChecking_touches : OnlyTouches quietParts s s.enterChecking := by
  unfold enterChecking
  dsimp only
  refine OnlyTouches.andThen ?_ withReports_touches (bs := quietParts)
  refine OnlyTouches.andThen ?_ (.each (fun _ _ => startSelfCheck_touches) _ _) (bs := quietParts)
  exact setStation_touches.andThen withGates_touches

theorem State.takeImage_touches {source : ImageSource} {i : Option Image} {x : Taken} :
    OnlyTouches [.loader, .settings, .plans, .sequencer, .ports, .roster] s (s.takeImage source i x) :=
  ((((withLoader_touches.andThen withSettings_touches (ds := [.loader, .settings])).andThen withPlans_touches
    (ds := [.loader, .settings, .plans])).andThen withSequencer_touches (ds := [.loader, .settings, .plans, .sequencer])).andThen
      withPorts_touches (ds := [.loader, .settings, .plans, .sequencer, .ports])).andThen withRoster_touches

theorem State.completeRead_touches {memory fuse : SourceRead} :
    OnlyTouches (.settings :: quietParts) s (s.completeRead memory fuse) := by
  unfold completeRead
  split
  · exact setStation_touches.mono
  · exact takeImage_touches.andThen enterChecking_touches
  · exact takeImage_touches.andThen enterChecking_touches

/-- A station reset leaves the queue of waiting commands (notes/assumptions/7.md). -/
theorem State.resetFrom_touches : OnlyTouches (.settings :: .gauges :: quietParts) s s.resetFrom := by
  intro k hk
  cases k
  case pending => rfl
  all_goals exact absurd hk (by decide)

/-! ## Frames -/

/-- A frame moves what acting on it moves, and its port. -/
theorem State.takeFrame_touches {d : DistrictId} {frame : Inbound} {kind : Byte} {query : Bool} {body : List Byte}
    {act : State → State} (h : ∀ t, OnlyTouches quietParts t (act t)) :
    OnlyTouches quietParts s (s.takeFrame d frame kind query body act) := by
  unfold takeFrame
  refine .ite (fun _ => .keep) fun _ => .ite (fun _ => setRx_touches.mono) fun _ => ?_
  refine OnlyTouches.andThen goodFrame_touches (.ite (fun _ => .keep) fun _ => ?_) (cs := quietParts) (hc := fun _ h => h)
  split
  · exact .keep
  · exact answerFrame_touches.mono
  · exact answerFrame_touches.mono
  · exact h _

theorem State.ownFrame_touches {d : DistrictId} {pair : Pair} {kind : Byte} {need : Nat} {body : List Byte}
    {act : State → State} (h : ∀ t, OnlyTouches quietParts t (act t)) :
    OnlyTouches quietParts s (s.ownFrame d pair kind need body act) :=
  .ite (fun _ => answerFrame_touches.mono) fun _ => .ite (fun _ => answerFrame_touches.mono) fun _ => h _

theorem State.actLift_touches {d : DistrictId} {pair : Pair} {body : List Byte} :
    OnlyTouches quietParts s (s.actLift d pair body) := by
  unfold actLift
  split
  · exact answerFrame_touches.mono
  · exact settle_quiet ((enterOrder_touches.andThen answerFrame_touches (ds := [.orders, .ports])).andThen
      (.each (fun _ _ => arbitrateFree_touches) _ _))

theorem State.actWithdraw_touches {d : DistrictId} {pair : Pair} {body : List Byte} :
    OnlyTouches quietParts s (s.actWithdraw d pair body) := by
  unfold actWithdraw
  refine .ite (fun _ => answerFrame_touches.mono) fun _ => ?_
  split
  · exact .ite (fun _ => settle_quiet (answerFrame_touches.andThen withdrawOrder_touches)) fun _ => answerFrame_touches.mono
  · exact answerFrame_touches.mono

theorem State.actSetReport_touches {d : DistrictId} {pair : Pair} {body : List Byte} :
    OnlyTouches quietParts s (s.actSetReport d pair body) := by
  unfold actSetReport
  split
  · exact .ite (fun _ => answerFrame_touches.mono) fun _ => setPort_touches.andThen answerFrame_touches
  · exact answerFrame_touches.mono

theorem State.actPortReset_touches {d : DistrictId} {pair : Pair} :
    OnlyTouches quietParts s (s.actPortReset d pair) :=
  settle_quiet (((setPort_touches.andThen cancelOrders_touches (ds := quietParts)).andThen setPort_touches
    (ds := quietParts)).andThen answerFrame_touches)

theorem State.beginSending_touches {d : DistrictId} {e : TxEntry} : OnlyTouches [.ports] s (s.beginSending d e) :=
  setPort_touches

/-! ## Notices -/

theorem State.holdAnswer_touches {a : Answer} : OnlyTouches [.river] s (s.holdAnswer a) := withRiver_touches

theorem State.dropAnswer_touches : OnlyTouches [.river] s s.dropAnswer := withRiver_touches

theorem State.rejectNotice_touches {kind : Byte} {dest : Destination} : OnlyTouches [.river] s (s.rejectNotice kind dest) :=
  .ite (fun _ => holdAnswer_touches) fun _ => .keep

/-- A notice moves what acting on it moves, and the River Port. -/
theorem State.takeNotice_touches {body : List Byte} {act : State → Destination → List Byte → State}
    (h : ∀ t dest rest, OnlyTouches bs t (act t dest rest)) (hb : ∀ k ∈ quietParts, k ∈ bs := by decide) :
    OnlyTouches bs s (s.takeNotice body act) := by
  have river : ∀ k ∈ [Block.ports, Block.river], k ∈ bs := fun k hk => hb k (by revert k; decide)
  have heard : OnlyTouches bs s s.goodNotice := withRiver_touches.mono fun k hk => river k (by revert k; decide)
  refine .ite (fun _ => .keep) fun _ => .ite (fun _ => setRx_touches.mono river) fun _ => .ite (fun _ => ?_) fun _ => heard
  split
  · exact heard.andThen (h _ _ _) (fun _ h => h) (fun _ h => h)
  · exact heard

theorem State.actOnNotice_touches {f : NoticeForm} {dest : Destination} {rest : List Byte} {act : State → List Byte → Acted}
    (h : OnlyTouches bs s (act s rest).state) (hb : ∀ k ∈ quietParts, k ∈ bs := by decide) :
    OnlyTouches bs s (s.actOnNotice f dest rest act) := by
  have river : ∀ k ∈ [Block.river], k ∈ bs := fun k hk => hb k (by revert k; decide)
  refine .ite (fun _ => .ite (fun _ => holdAnswer_touches.mono river) fun _ => .keep) fun _ => .ite (fun _ => .keep) fun _ => ?_
  exact .ite (fun _ => h.andThen holdAnswer_touches (fun _ h => h) river) fun _ => h

theorem State.actPlan_touches {rest : List Byte} : OnlyTouches quietParts s (s.actPlan rest).state := by
  unfold actPlan
  split
  · exact raiseStation_touches.mono
  · exact stagePlan_touches.mono

theorem State.actMark_touches {rest : List Byte} : OnlyTouches quietParts s (s.actMark rest).state := by
  unfold actMark
  split
  · exact settle_quiet boundary_touches.mono
  · exact raiseStation_touches.mono

theorem State.actStage_touches {rest : List Byte} : OnlyTouches [.gauges] s (s.actStage rest).state := withGauges_touches

theorem State.actAdopt_touches {rest : List Byte} : OnlyTouches quietParts s (s.actAdopt rest).state := by
  unfold actAdopt
  split
  · exact settle_quiet (swapBanks_touches.andThen boundary_touches)
  · exact .keep

theorem State.setPin_touches {x : Option (Fin 4)} : OnlyTouches quietParts s (s.setPin x) :=
  settle_quiet withSequencer_touches.mono

theorem State.actPin_touches {rest : List Byte} : OnlyTouches quietParts s (s.actPin rest).state := by
  unfold actPin
  split
  · exact setPin_touches
  · exact .keep

theorem State.actUnpin_touches {rest : List Byte} : OnlyTouches quietParts s (s.actUnpin rest).state := by
  unfold actUnpin
  split
  · exact setPin_touches
  · exact .keep

theorem State.setHold_touches {p : PumpId} {x : Bool} : OnlyTouches [.pumps] s (s.setHold p x) := setPump_touches

theorem State.actHold_touches {rest : List Byte} : OnlyTouches quietParts s (s.actHold rest).state := by
  unfold actHold
  split
  · exact .keep
  · split
    · exact .keep
    · exact settle_quiet (setHold_touches.andThen takeHold_touches)

theorem State.actRelease_touches {rest : List Byte} : OnlyTouches quietParts s (s.actRelease rest).state := by
  unfold actRelease
  split
  · exact .keep
  · split
    · exact settle_quiet (setHold_touches.andThen takeRelease_touches)
    · exact .keep

theorem State.actClear_touches {rest : List Byte} : OnlyTouches quietParts s (s.actClear rest).state := by
  unfold actClear
  split
  · exact .keep
  · split
    · exact .keep
    · split
      · exact settle_quiet clearKinds_touches.mono
      · exact .keep

theorem State.reopen_touches {i : IntakeId} : OnlyTouches [.gates] s (s.reopen i) := by
  unfold reopen
  split
  · exact .keep
  · exact .ite (fun _ => openGate_touches) fun _ => .keep

theorem State.actGateClear_touches {rest : List Byte} : OnlyTouches quietParts s (s.actGateClear rest).state := by
  unfold actGateClear
  split
  · exact .keep
  · split
    · exact (startClosing_touches.andThen setFaulted_touches (ds := [.gates, .orders])).andThen reopen_touches
    · exact .keep

theorem State.actPoll_touches {rest : List Byte} : OnlyTouches quietParts s (s.actPoll rest).state :=
  withRiver_touches.mono

/-! ## Commands -/

/-- What a notice command may move, from what acting on the notice may. -/
theorem State.notice_touches {body : List Byte} {f : NoticeForm} {act : State → List Byte → Acted}
    (h : ∀ t rest, OnlyTouches bs t (act t rest).state) (hb : ∀ k ∈ quietParts, k ∈ bs := by decide) :
    OnlyTouches bs s (s.takeNotice body fun t dest rest => t.actOnNotice f dest rest act) :=
  takeNotice_touches (fun t _ rest => actOnNotice_touches (h t rest) hb) hb

/-- The frames of the commands' own steps, gathered for `exec`. -/
theorem exec_completes_touching (c : Instr) (s : State) : Completes (exec c s) (OnlyTouches (commandParts c) s) := by
  cases c
  all_goals dsimp only [commandParts]
  case stationReset => exact ⟨_, rfl, State.resetFrom_touches⟩
  case resetRelease => exact ⟨_, rfl, State.withLoader_touches.mono⟩
  case imageReadComplete memory fuse => exact ⟨_, rfl, .ite (fun _ => State.completeRead_touches) fun _ => .keep⟩
  case sample => exact ⟨_, rfl, .ite (fun _ => State.sample_touches.mono) fun _ => .keep⟩
  case sequencerSecond => exact ⟨_, rfl, State.withSequencer_touches.mono⟩
  case durationExpiry => exact ⟨_, rfl, .ite (fun _ => State.settle_quiet State.boundary_touches.mono) fun _ => .keep⟩
  case plan => exact ⟨_, rfl, State.notice_touches fun _ _ => State.actPlan_touches⟩
  case mark => exact ⟨_, rfl, State.notice_touches fun _ _ => State.actMark_touches⟩
  case stage => exact ⟨_, rfl, State.notice_touches fun _ _ => State.actStage_touches.mono⟩
  case adopt => exact ⟨_, rfl, State.notice_touches fun _ _ => State.actAdopt_touches⟩
  case pin => exact ⟨_, rfl, State.notice_touches fun _ _ => State.actPin_touches⟩
  case unpin => exact ⟨_, rfl, State.notice_touches fun _ _ => State.actUnpin_touches⟩
  case hold => exact ⟨_, rfl, State.notice_touches fun _ _ => State.actHold_touches⟩
  case release => exact ⟨_, rfl, State.notice_touches fun _ _ => State.actRelease_touches⟩
  case clear => exact ⟨_, rfl, State.notice_touches fun _ _ => State.actClear_touches⟩
  case gateClear => exact ⟨_, rfl, State.notice_touches fun _ _ => State.actGateClear_touches⟩
  case poll => exact ⟨_, rfl, State.notice_touches fun _ _ => State.actPoll_touches⟩
  case unknownNotice =>
    exact ⟨_, rfl, State.takeNotice_touches fun _ _ _ => .ite (fun _ => .keep) fun _ => State.rejectNotice_touches.mono⟩
  case stationReplyNotice => exact ⟨_, rfl, State.takeNotice_touches fun _ _ _ => .keep⟩
  case stationReplySend =>
    refine ⟨_, rfl, ?_⟩
    split
    · exact State.withRiver_touches.mono
    · exact .keep
  case answerDiscard => exact ⟨_, rfl, .ite (fun _ => State.dropAnswer_touches.mono) fun _ => .keep⟩
  case lift => exact ⟨_, rfl, State.takeFrame_touches fun _ => State.actLift_touches⟩
  case withdraw => exact ⟨_, rfl, State.takeFrame_touches fun _ => State.actWithdraw_touches⟩
  case query =>
    exact ⟨_, rfl, State.takeFrame_touches fun _ => State.ownFrame_touches fun _ => State.setPort_touches.mono⟩
  case setReport =>
    exact ⟨_, rfl, State.takeFrame_touches fun _ => State.ownFrame_touches fun _ => State.actSetReport_touches⟩
  case portReset =>
    exact ⟨_, rfl, State.takeFrame_touches fun _ => State.ownFrame_touches fun _ => State.actPortReset_touches⟩
  case unknownFrame => exact ⟨_, rfl, State.takeFrame_touches fun _ => State.answerFrame_touches.mono⟩
  case frameDiscarded => exact ⟨_, rfl, State.setRx_touches.mono⟩
  case frameGapTimeout => exact ⟨_, rfl, .ite (fun _ => State.setRx_touches.mono) fun _ => .keep⟩
  case transmitStart =>
    refine ⟨_, rfl, ?_⟩
    split
    · exact .ite (fun _ => State.beginSending_touches.mono) fun _ => .keep
    · exact .keep
  case transmitEnd =>
    exact ⟨_, rfl, .ite
      (fun _ => .ite (fun _ => State.setPort_touches.andThen State.placeFreed_touches) fun _ => State.setPort_touches.mono)
      fun _ => .keep⟩
  case alwaysReportExpiry => exact ⟨_, rfl, .ite (fun _ => State.setPort_touches.mono) fun _ => .keep⟩
  case staggerExpiry => exact ⟨_, rfl, .ite (fun _ => State.settle_quiet State.withRoster_touches.mono) fun _ => .keep⟩
  case selfCheckLimitExpiry => exact ⟨_, rfl, .ite (fun _ => State.settle_quiet State.fault_touches.mono) fun _ => .keep⟩
  case primeLimitExpiry => exact ⟨_, rfl, .ite (fun _ => State.settle_quiet State.fault_touches.mono) fun _ => .keep⟩
  case primeHoldExpiry => exact ⟨_, rfl, .ite (fun _ => State.settle_quiet State.toIdle_touches.mono) fun _ => .keep⟩
  case startConfirmExpiry => exact ⟨_, rfl, .ite (fun _ => State.settle_quiet State.fault_touches.mono) fun _ => .keep⟩
  case rundownLimitExpiry => exact ⟨_, rfl, .ite (fun _ => State.settle_quiet State.fault_touches.mono) fun _ => .keep⟩
  case breakPulseEnd => exact ⟨_, rfl, State.setPump_touches.mono⟩
  case readyTrue =>
    exact ⟨_, rfl, .ite (fun _ => .keep) fun _ =>
      State.settle_quiet (State.setReady_touches.andThen State.onReady_touches)⟩
  case readyFalse => exact ⟨_, rfl, State.setReady_touches.mono⟩
  case runningTrue =>
    exact ⟨_, rfl, .ite (fun _ => .keep) fun _ =>
      State.settle_quiet (State.setRunning_touches.andThen State.onRunning_touches)⟩
  case runningFalse =>
    exact ⟨_, rfl, .ite
      (fun _ => State.settle_quiet (State.setRunning_touches.andThen State.onStopped_touches)) fun _ => .keep⟩
  case primedTrue =>
    exact ⟨_, rfl, .ite (fun _ => .keep) fun _ =>
      State.settle_quiet (State.setPrimed_touches.andThen State.onSiphonFull_touches)⟩
  case primedFalse =>
    exact ⟨_, rfl, .ite
      (fun _ => State.settle_quiet (State.setPrimed_touches.andThen State.onSiphonLost_touches)) fun _ => .keep⟩
  case hotTrue =>
    exact ⟨_, rfl, .ite (fun _ => .keep) fun _ =>
      State.settle_quiet (State.setHot_touches.andThen State.takeHot_touches)⟩
  case hotFalse => exact ⟨_, rfl, State.setHot_touches.mono⟩
  case feederOkFalse =>
    exact ⟨_, rfl, .ite
      (fun _ => State.settle_quiet (State.setFeeder_touches.andThen (.each (fun _ _ => State.loseSupply_touches) _ _)))
      fun _ => .keep⟩
  case feederOkTrue =>
    exact ⟨_, rfl, .ite (fun _ => .keep) fun _ =>
      State.settle_quiet (State.setFeeder_touches.andThen (.each (fun _ _ => State.regainSupply_touches) _ _))⟩
  case atOpenTrue =>
    exact ⟨_, rfl, .ite (fun _ => State.setAtOpen_touches.andThen State.setGate_touches) fun _ =>
      State.setAtOpen_touches.mono⟩
  case atOpenFalse =>
    exact ⟨_, rfl, .ite (fun _ => State.setAtOpen_touches.andThen State.startOpening_touches) fun _ =>
      State.setAtOpen_touches.mono⟩
  case atShutTrue =>
    exact ⟨_, rfl, .ite (fun _ => State.setAtShut_touches.andThen State.setGate_touches) fun _ =>
      State.setAtShut_touches.mono⟩
  case atShutFalse =>
    exact ⟨_, rfl, .ite (fun _ => State.setAtShut_touches.andThen State.startClosing_touches) fun _ =>
      State.setAtShut_touches.mono⟩
  case travelLimitExpiry => exact ⟨_, rfl, .ite (fun _ => State.settle_quiet State.jam_touches.mono) fun _ => .keep⟩
  case startMarkerReceived => exact ⟨_, rfl, .ite (fun _ => .keep) fun _ => State.setRx_touches.mono⟩
  case answerSent => exact ⟨_, rfl, .ite (fun _ => State.withRiver_touches.mono) fun _ => .keep⟩

/-- Every command moves only what `commandParts` says, and never the queue of waiting commands. -/
theorem exec_touches {c : Instr} {s t : State} (h : exec c s = .next t) : OnlyTouches (commandParts c) s t := by
  obtain ⟨u, hu, touched⟩ := exec_completes_touching c s
  rw [h] at hu
  cases hu
  exact touched

theorem State.tick_touches : OnlyTouches [.second, .roster, .pumps, .gates, .ports] s s.tick :=
  .ite (fun _ => .keep) fun _ => .ite (fun _ => withSecond_touches.andThen countTimers_touches) fun _ =>
    withSecond_touches.mono

/-- A property that the queue does not matter to is kept by every step when every command keeps it and the passing of a second
does. -/
theorem stepKeeps_of_exec {inv : State → Prop} (queue : ∀ s x, inv s → inv (s.withPending x))
    (command : ∀ c s t, inv s → exec c s = .next t → inv t) (second : ∀ s, inv s → inv s.tick) : StepKeeps inv := by
  intro s t hs ht
  unfold step at ht
  split at ht
  · exact command _ _ t (queue s _ hs) ht
  · unfold idle at ht
    split at ht
    · exact command _ s t hs ht
    · cases ht
      exact second s hs

end Sys2Proof.Machine
end

section
/-! SUPPORT. The settings and the gauge records stay within their ranges (R177, R28). -/

-- One proof after another, as in Laws: in parallel, the threads of so many outgrow the memory the check allows.
set_option Elab.async false

namespace Sys2Proof.Machine

open Sys2Proof Sys2Proof.Safety

variable {s : State}

/-! ## Settings -/

theorem clampNat_bounds {lo hi x : Nat} (h : lo ≤ hi) : lo ≤ clampNat lo hi x ∧ clampNat lo hi x ≤ hi := by
  unfold clampNat; omega

theorem clampInt_bounds {lo hi x : Int} (h : lo ≤ hi) : lo ≤ clampInt lo hi x ∧ clampInt lo hi x ≤ hi := by
  unfold clampInt; omega

theorem clampInt_levelInRange (x : Int) : LevelInRange (clampInt (-10000) 10000 x) := clampInt_bounds (by decide)

/-- The settings taken from any image lie in their ranges (R177). -/
theorem takeSettings_inRange (i : Image) : SettingsInRange (takeSettings i) := by
  have within {lo hi : Nat} (x : Nat) (h : lo ≤ hi := by decide) := clampNat_bounds (x := x) h
  refine ⟨within _, fun d => ?_, fun b => ?_, fun g => ?_, within _, within _, within _, within _, within _, within _, within _,
    within _, min_le_right _ _, within _⟩
  · have ignored (m : BitVec 16) : m &&& 0x03FF &&& ~~~maskBits = 0 := by
      rw [BitVec.and_assoc]; exact BitVec.and_zero
    simp only [takeSettings, Fin.getElem_fin, Vector.getElem_ofFn, takeDistrict]
    exact ⟨ignored _, min_le_right _ _⟩
  · simp only [takeSettings, Fin.getElem_fin, Vector.getElem_ofFn, takeBay]
    exact ⟨clampInt_levelInRange _, clampInt_levelInRange _, clampInt_bounds (by decide)⟩
  · simp only [takeSettings, Fin.getElem_fin, Vector.getElem_ofFn, takeGauge]
    obtain ⟨spanLow, spanHigh⟩ := within (lo := 100) (hi := 20000) i.gauges[g].span
    exact ⟨clampInt_levelInRange _, spanLow, spanHigh, clampInt_bounds (by decide)⟩

/-- So do the built-in defaults (Table 10-5). -/
theorem builtInSettings_inRange : SettingsInRange builtInSettings := by
  unfold SettingsInRange LevelInRange; decide

theorem State.enterChecking_settings : s.enterChecking.settings = s.settings := enterChecking_touches.same .settings

/-- The settings after an image read are those that stood, or those of a source, or the built-in defaults (R176 to R178). -/
theorem State.completeRead_settings (memory fuse : SourceRead) :
    (s.completeRead memory fuse).settings = s.settings
      ∨ (∃ i, (s.completeRead memory fuse).settings = takeSettings i)
      ∨ (s.completeRead memory fuse).settings = builtInSettings := by
  unfold completeRead
  split
  · exact .inl rfl
  · exact .inr (.inl ⟨_, enterChecking_settings⟩)
  · exact .inr (.inr enterChecking_settings)

theorem State.completeRead_inRange {memory fuse : SourceRead} (h : SettingsInRange s.settings) :
    SettingsInRange (s.completeRead memory fuse).settings := by
  obtain kept | ⟨i, taken⟩ | builtIn := s.completeRead_settings memory fuse
  · rwa [kept]
  · rw [taken]; exact takeSettings_inRange i
  · rw [builtIn]; exact builtInSettings_inRange

/-- Settings move only at a station reset and at an image read. -/
theorem exec_settings_inRange {c : Instr} {s t : State} (hs : SettingsInRange s.settings) (h : exec c s = .next t) :
    SettingsInRange t.settings := by
  have quiet (kept : Block.settings ∉ commandParts c) : SettingsInRange t.settings := by
    rw [(exec_touches h).same .settings kept]; exact hs
  cases c
  case stationReset => cases h; exact builtInSettings_inRange
  case imageReadComplete memory fuse =>
    cases h
    split
    · exact State.completeRead_inRange hs
    · exact hs
  all_goals exact quiet (by dsimp only [commandParts]; decide)

/-- Settles O60: the settings move only where a reset or an image read takes them, each clamped to its range. -/
theorem stepKeepsSettingsInRange : Obligations.StepKeepsSettingsInRange :=
  stepKeeps_of_exec (fun _ _ h => h) (fun _ _ _ hs h => exec_settings_inRange hs h) fun s h => by
    rw [State.tick_touches.same .settings]; exact h

/-! ## Gauge records -/

/-- A gauge record in its ranges (Table 2-2, R28): `GaugesBounded` for one gauge, without the smoothed level, which follows. -/
def GaugeRecord.Bounded (x : GaugeRecord) : Prop :=
  x.window.length ≤ 4 ∧ (∀ y ∈ x.window, LevelInRange y) ∧ x.holdCount ≤ 3
    ∧ (x.condition = .ok ∨ x.condition = .saturated → x.holdCount = 0) ∧ (x.condition = .failed ↔ x.window = [])

/-- The sum of levels in range lies within as many times the bounds. -/
theorem sum_levels_bounds {w : List Int} (h : ∀ y ∈ w, LevelInRange y) :
    -10000 * (w.length : Int) ≤ w.sum ∧ w.sum ≤ 10000 * (w.length : Int) := by
  induction w with
  | nil => simp
  | cons y ys ih =>
    obtain ⟨low, high⟩ := h y List.mem_cons_self
    obtain ⟨sumLow, sumHigh⟩ := ih fun z hz => h z (List.mem_cons_of_mem _ hz)
    simp only [List.sum_cons, List.length_cons, Nat.cast_add, Nat.cast_one]
    omega

/-- The floored mean of levels in range is in range (R28). -/
theorem mean_levelInRange {w : List Int} (h : ∀ y ∈ w, LevelInRange y) (nonempty : w ≠ []) :
    LevelInRange (w.sum / (w.length : Int)) := by
  have positive : 0 < (w.length : Int) := by exact_mod_cast List.length_pos_iff.2 nonempty
  obtain ⟨low, high⟩ := sum_levels_bounds h
  exact ⟨(Int.le_ediv_iff_mul_le positive).2 low, Int.ediv_le_of_le_mul positive high⟩

/-- A level is the floored mean of a window that is not empty (R28). -/
theorem GaugeRecord.level_eq_some {x : GaugeRecord} {m : Int} (h : x.level = some m) :
    x.window ≠ [] ∧ m = x.window.sum / (x.window.length : Int) := by
  unfold GaugeRecord.level at h
  split at h
  · cases h
  · rename_i valid
    exact ⟨fun empty => valid (.inr empty), (Option.some.inj h).symm⟩

/-- A smoothed level from levels in range is in range (R28). -/
theorem GaugeRecord.level_inRange {x : GaugeRecord} (h : ∀ y ∈ x.window, LevelInRange y) : ∀ m ∈ x.level, LevelInRange m := by
  intro m hm
  obtain ⟨nonempty, rfl⟩ := GaugeRecord.level_eq_some hm
  exact mean_levelInRange h nonempty

theorem gaugesBounded_iff {s : State} : GaugesBounded s ↔ ∀ g : GaugeId, s.gauges.records[g].Bounded := by
  refine forall_congr' fun g => ⟨?_, ?_⟩
  · rintro ⟨length, levels, hold, -, zero, failed⟩
    exact ⟨length, levels, hold, zero, failed⟩
  · rintro ⟨length, levels, hold, zero, failed⟩
    exact ⟨length, levels, hold, GaugeRecord.level_inRange levels, zero, failed⟩

/-- What a join leaves in the window is the new level and levels that it held (R28). -/
theorem mem_joinWindow {w : List Int} {x y : Int} (h : y ∈ joinWindow w x) : y ∈ w ∨ y = x := by
  simpa using List.mem_of_mem_drop h

theorem joinWindow_length_le (w : List Int) (x : Int) : (joinWindow w x).length ≤ 4 := by
  simp only [joinWindow, List.length_drop, List.length_append, List.length_singleton, Config.windowSize]
  omega

theorem joinWindow_ne_nil (w : List Int) (x : Int) : joinWindow w x ≠ [] := by
  intro h
  have := congrArg List.length h
  simp only [joinWindow, List.length_drop, List.length_append, List.length_singleton, Config.windowSize, List.length_nil] at this
  omega

/-- A reading that gives no count (Table 2-3, rows of LOOP OPEN). -/
theorem GaugeRecord.read_open {g : GaugeSettings} {x : GaugeRecord} {i : LoopInput} (h : rawCount i = none) :
    x.read g i =
      match x.condition with
      | .failed => x
      | .ok | .saturated => { x with holdCount := x.holdCount + 1, condition := .holding }
      | .holding =>
        if x.holdCount < 3 then { x with holdCount := x.holdCount + 1 }
        else { x with window := [], condition := .failed } := by
  unfold GaugeRecord.read; rw [h]; rfl

/-- A good reading (Table 2-3). -/
theorem GaugeRecord.read_good {g : GaugeSettings} {x : GaugeRecord} {i : LoopInput} {r : Nat} (h : rawCount i = some r) :
    x.read g i =
      { window := if x.condition = .failed then [levelOf g r] else joinWindow x.window (levelOf g r), holdCount := 0,
        condition := if saturates g r then .saturated else .ok } := by
  unfold GaugeRecord.read; rw [h]

theorem levelOf_inRange (g : GaugeSettings) (r : Nat) : LevelInRange (levelOf g r) := clampInt_levelInRange _

/-- A good reading leaves a window of one to four levels in range (R28). -/
theorem GaugeRecord.read_good_window {g : GaugeSettings} {x : GaugeRecord} {i : LoopInput} {r : Nat} (h : rawCount i = some r)
    (levels : ∀ y ∈ x.window, LevelInRange y) :
    (x.read g i).window ≠ [] ∧ (x.read g i).window.length ≤ 4 ∧ ∀ y ∈ (x.read g i).window, LevelInRange y := by
  rw [read_good h]
  dsimp only
  split
  · refine ⟨by simp, by simp, fun y hy => ?_⟩
    rw [List.mem_singleton.1 hy]
    exact levelOf_inRange g r
  · refine ⟨joinWindow_ne_nil _ _, joinWindow_length_le _ _, fun y hy => ?_⟩
    obtain old | rfl := mem_joinWindow hy
    · exact levels y old
    · exact levelOf_inRange g r

/-- A good reading ends HOLDING and FAILED (R27, R31). -/
theorem GaugeRecord.read_good_condition {g : GaugeSettings} {x : GaugeRecord} {i : LoopInput} {r : Nat}
    (h : rawCount i = some r) :
    (x.read g i).condition = if saturates g r then .saturated else .ok := by
  rw [read_good h]

theorem GaugeRecord.read_good_not_failed {g : GaugeSettings} {x : GaugeRecord} {i : LoopInput} {r : Nat}
    (h : rawCount i = some r) : (x.read g i).condition ≠ .failed := by
  rw [read_good_condition h]; split <;> simp

theorem GaugeRecord.read_good_holdCount {g : GaugeSettings} {x : GaugeRecord} {i : LoopInput} {r : Nat}
    (h : rawCount i = some r) : (x.read g i).holdCount = 0 := by
  rw [read_good h]

/-- Whatever the settings of a gauge, a reading keeps its record in range (R28 to R31). -/
theorem GaugeRecord.read_bounded {g : GaugeSettings} {x : GaugeRecord} {i : LoopInput} (h : x.Bounded) :
    (x.read g i).Bounded := by
  cases reading : rawCount i with
  | some r =>
    obtain ⟨nonempty, length, levels⟩ := read_good_window (g := g) reading h.2.1
    have reset := read_good_holdCount (g := g) (x := x) reading
    exact ⟨length, levels, reset.trans_le (Nat.zero_le _), fun _ => reset,
      fun failed => absurd failed (read_good_not_failed reading), fun empty => absurd empty nonempty⟩
  | none =>
    rw [read_open reading]
    obtain ⟨length, levels, hold, zero, failed⟩ := h
    split
    case h_1 => exact ⟨length, levels, hold, zero, failed⟩
    all_goals rename_i condition
    case h_4 =>
      have nonempty : x.window ≠ [] := fun empty => by simp [failed.2 empty] at condition
      split
      · exact ⟨length, levels, by dsimp only; omega, by simp [condition], by simp [condition, nonempty]⟩
      · exact ⟨by simp, by simp, hold, by simp, by simp⟩
    all_goals
      have nonempty : x.window ≠ [] := fun empty => by simp [failed.2 empty] at condition
      have none : x.holdCount = 0 := zero (by simp [condition])
      exact ⟨length, levels, by simp [none], by simp, by simp [nonempty]⟩

/-! ## Readings -/

/-- The state with each gauge record as its loop's reading leaves it. -/
def State.withReadings (s : State) (inputs : Vector LoopInput 4) : State :=
  s.withGauges
    { s.gauges with records := Vector.ofFn fun g : Fin 4 => s.gauges.records[g].read s.settings.gauges[g] inputs[g] }

/-- The state with the river level that its records give (Table 2-4), and the heads that follow (R37). -/
def State.withRiverLevel (s : State) : State :=
  s.withGauges
    { s.gauges with
      source := s.chooseRiver.1, river := s.chooseRiver.2, headBlind := s.chooseRiver.1 == .none,
      heads := Vector.ofFn fun b : Fin 3 => headOf s.chooseRiver.2 (s.bayLevel b) s.settings.bays[b].loss }

/-- GAUGE_FAILED, when a gauge has failed since `old` (R30). -/
def State.tellFailed (s old : State) : State :=
  if [(0 : GaugeId), 1, 2, 3].any fun g => becameFailed old.gauges.records[g] s.gauges.records[g] then
    s.raiseStation .gaugeFailed
  else s

/-- A reading is the records, then river level and heads, then what is raised (R23 to R37). -/
theorem State.readGauges_eq (s : State) (inputs : Vector LoopInput 4) :
    s.readGauges inputs =
      if s.gauges.headBlind = false ∧ (s.withReadings inputs).chooseRiver.1 = .none then
        ((s.withReadings inputs).withRiverLevel.tellFailed s).raiseHeadBlind
      else (s.withReadings inputs).withRiverLevel.tellFailed s := rfl

theorem State.tellFailed_touches {s old : State} : OnlyTouches [.river] s (s.tellFailed old) :=
  .ite (fun _ => raiseStation_touches) fun _ => .keep

theorem State.readGauges_after_level (s : State) (inputs : Vector LoopInput 4) :
    OnlyTouches [.ports, .river] (s.withReadings inputs).withRiverLevel (s.readGauges inputs) := by
  rw [readGauges_eq]
  exact .ite (fun _ => tellFailed_touches.andThen raiseHeadBlind_touches) fun _ => tellFailed_touches.mono

/-- The gauges after a reading. -/
theorem State.readGauges_gauges (s : State) (inputs : Vector LoopInput 4) :
    (s.readGauges inputs).gauges = (s.withReadings inputs).withRiverLevel.gauges :=
  (s.readGauges_after_level inputs).same .gauges

/-- The settling and the Meter leave the gauges as the reading left them. -/
theorem State.sample_gauges (s : State) (inputs : Vector LoopInput 4) :
    (s.sample inputs).gauges = (s.beginSample.readGauges inputs).gauges := sample_touches_after_reading.same .gauges

/-- A sample gives each gauge its reading (R43, Table 2-3). -/
theorem State.sample_records (s : State) (inputs : Vector LoopInput 4) (g : GaugeId) :
    (s.sample inputs).gauges.records[g] = s.gauges.records[g].read s.settings.gauges[g] inputs[g] := by
  have gauges : s.beginSample.gauges = s.gauges := beginSample_touches.same .gauges
  have settings : s.beginSample.settings = s.settings := beginSample_touches.same .settings
  rw [sample_gauges, readGauges_gauges]
  simp [withRiverLevel, withReadings, gauges, settings]

/-! ## The notices that the River Port takes -/

/-- What a good notice can come to (R156, R157, R166 to R168): it is lost, or over-length, or not for the River Port to act on, or
acted on. -/
theorem State.takeNotice_cases (s : State) (body : List Byte) (act : State → Destination → List Byte → State) :
    s.takeNotice body act = s ∨ s.takeNotice body act = s.setRx .river .hunt ∨ s.takeNotice body act = s.goodNotice
      ∨ ∃ dest, s.takeNotice body act = act s.goodNotice dest (body.drop 2) := by
  unfold takeNotice
  split
  · exact .inl rfl
  · split
    · exact .inr (.inl rfl)
    · dsimp only
      split
      · split
        · exact .inr (.inr (.inr ⟨_, rfl⟩))
        · exact .inr (.inr (.inl rfl))
      · exact .inr (.inr (.inl rfl))

/-- What an accepted notice can come to (R167): nothing, or what acting on it comes to, beside the answer. -/
theorem State.actOnNotice_cases (s : State) (f : NoticeForm) (dest : Destination) (rest : List Byte)
    (act : State → List Byte → Acted) :
    OnlyTouches [.river] s (s.actOnNotice f dest rest act)
      ∨ OnlyTouches [.river] (act s rest).state (s.actOnNotice f dest rest act) := by
  unfold actOnNotice
  split
  · exact .inl (.ite (fun _ => holdAnswer_touches) fun _ => .keep)
  · split
    · exact .inl .keep
    · exact .inr (.ite (fun _ => holdAnswer_touches) fun _ => .keep)

/-- A STAGE leaves every gauge record (R33). -/
theorem execStage_records {body : List Byte} {s t : State} (h : execStage body s = .next t) :
    t.gauges.records = s.gauges.records := by
  cases h
  obtain e | e | e | ⟨dest, e⟩ := s.takeNotice_cases body
    fun t dest rest => t.actOnNotice ⟨kindStage, some 2, false⟩ dest rest State.actStage
  all_goals rw [e]
  · rfl
  · rfl
  · obtain quiet | acted := s.goodNotice.actOnNotice_cases ⟨kindStage, some 2, false⟩ dest (body.drop 2) State.actStage
    · rw [quiet.same .gauges]; rfl
    · rw [acted.same .gauges]; rfl

/-- Gauge records move only at a station reset and at a sample. -/
theorem exec_gaugesBounded {c : Instr} {s t : State} (hs : GaugesBounded s) (h : exec c s = .next t) : GaugesBounded t := by
  have records (kept : t.gauges.records = s.gauges.records) : GaugesBounded t := by
    unfold GaugesBounded; rw [kept]; exact hs
  have quiet (kept : Block.gauges ∉ commandParts c) : GaugesBounded t :=
    records (congrArg GaugeUnit.records ((exec_touches h).same .gauges kept))
  cases c
  case stationReset =>
    cases h
    intro g
    simp [State.resetFrom, State.reset, GaugeRecord.level]
  case sample =>
    cases h
    split
    · rw [gaugesBounded_iff] at hs ⊢
      intro g
      rw [State.sample_records]
      exact GaugeRecord.read_bounded (hs g)
    · exact hs
  case stage => exact records (execStage_records h)
  all_goals exact quiet (by dsimp only [commandParts]; decide)

/-- Settles O54: only readings move the records, and a reading keeps a record bounded whatever the settings. -/
theorem stepKeepsGaugesBounded : Obligations.StepKeepsGaugesBounded :=
  stepKeeps_of_exec (fun _ _ h => h) (fun _ _ _ hs h => exec_gaugesBounded hs h) fun s h => by
    unfold GaugesBounded; rw [State.tick_touches.same .gauges]; exact h

end Sys2Proof.Machine
end

section
/-! SUPPORT. The rules of the readings: STAGE (R33), the level of a count (R26), the smoothing window (R27 to R31) and the pump
curve (R38, R39). -/

-- One proof after another, as in Laws: in parallel, the threads of so many outgrow the memory the check allows.
set_option Elab.async false

namespace Sys2Proof.Machine

open Sys2Proof Sys2Proof.Safety

variable {s : State}

/-! ## STAGE -/

/-- A notice that the River Port hears reaches what acts on it (R166). -/
theorem State.takeNotice_heard {body : List Byte} {dest : Destination} (act : State → Destination → List Byte → State)
    (h : Heard s body dest) : s.takeNotice body act = act s.goodNotice dest (body.drop 2) := by
  obtain ⟨running, idle, length, accepted⟩ := h
  have passes : ¬(s.loader.station = .loading ∨ s.river.sending.isSome = true) := by simp [running, idle]
  unfold takeNotice
  rw [if_neg passes, if_neg (Nat.not_lt.2 length)]
  dsimp only
  rw [if_pos (show s.goodNotice.isRunning from running), show s.goodNotice.settings.accepts body = some dest from accepted]

/-- A notice of the right length that any accepted destination may send is acted on (R167). -/
theorem State.actOnNotice_open {f : NoticeForm} {dest : Destination} {rest : List Byte} {act : State → List Byte → Acted}
    (length : f.need = some rest.length) (anyone : f.stationOnly = false) :
    s.actOnNotice f dest rest act =
      if dest = .station then
        (act s rest).state.holdAnswer { kind := f.kind, outcome := (act s rest).outcome, sections := (act s rest).sections }
      else (act s rest).state := by
  unfold actOnNotice
  rw [length, anyone]
  simp

/-- The signed number of two bytes is that of the word they make. -/
theorem signed16_numberBE (hi lo : Byte) : signed16 (numberBE [hi, lo]) = (hi ++ lo).toInt := by
  have high := hi.isLt
  have low := lo.isLt
  have word : (hi ++ lo).toNat = hi.toNat * 256 + lo.toNat := by
    rw [BitVec.toNat_append, ← Nat.shiftLeft_add_eq_or_of_lt low, Nat.shiftLeft_eq]
  rw [BitVec.toInt_eq_toNat_cond, word]
  simp only [signed16, numberBE, List.foldl]
  omega

theorem readStage_two_bytes (hi lo : Byte) : readStage [hi, lo] = max (-10000) (min 10000 (hi ++ lo).toInt) := by
  unfold readStage clampInt
  rw [signed16_numberBE]

/-- Settles O13: a STAGE that is heard reaches its record, and only the answer follows. -/
theorem stageNoticeWritesRecord : Obligations.StageNoticeWritesRecord := by
  intro b1 b2 hi lo dest s heard
  refine ⟨_, congrArg Host.Outcome.next ((State.takeNotice_heard _ heard).trans (State.actOnNotice_open rfl rfl)), ?_⟩
  have record : (s.goodNotice.actStage [hi, lo]).state.gauges =
      { s.gauges with stage := some { level := max (-10000) (min 10000 (hi ++ lo).toInt), arrival := s.second } } := by
    rw [← readStage_two_bytes]; rfl
  have touched : OnlyTouches [.gauges, .river] s (s.goodNotice.actStage [hi, lo]).state :=
    OnlyTouches.andThen State.withRiver_touches State.actStage_touches
  show OnlyTouches _ s (ite _ _ _) ∧ _
  split
  · exact ⟨touched.andThen State.holdAnswer_touches, record, rfl, by rw [AnswerIs, if_pos ‹_›]; rfl⟩
  · exact ⟨touched, record, rfl, by rw [AnswerIs, if_neg ‹_›]; rfl⟩

/-! ## Levels (R26) -/

/-- The unclamped level from a scaled value (R26). -/
theorem unclampedLevel_eq (g : GaugeSettings) (r : Nat) :
    unclampedLevel g r =
      match g.kind with
      | .depth => g.mount + (r * g.span / 4095 : Nat) + g.trim
      | .range => g.mount - (r * g.span / 4095 : Nat) + g.trim := rfl

/-- The scaled value of a count never exceeds the span (R26). -/
theorem scaled_le_span {r : Nat} (span : Nat) (h : r ≤ 4095) : r * span / 4095 ≤ span :=
  Nat.div_le_of_le_mul (Nat.mul_le_mul_right span h)

/-- The unclamped level lies within ±30,500 mm (R26). -/
theorem unclampedLevel_bounds {g : GaugeSettings} {r : Nat} (hr : r ≤ 4095) (mount : LevelInRange g.mount)
    (span : g.span ≤ 20000) (trimLow : -500 ≤ g.trim) (trimHigh : g.trim ≤ 500) :
    -30500 ≤ unclampedLevel g r ∧ unclampedLevel g r ≤ 30500 := by
  have scaled := scaled_le_span g.span hr
  obtain ⟨low, high⟩ := mount
  rw [unclampedLevel_eq]
  split <;> omega

/-- The level is the unclamped one exactly while that is in range (R26). -/
theorem levelOf_eq_unclamped_iff {g : GaugeSettings} {r : Nat} :
    levelOf g r = unclampedLevel g r ↔ LevelInRange (unclampedLevel g r) := by
  unfold levelOf clampInt LevelInRange; omega

/-- A LOOP OPEN leaves a window as it is or empties it (Table 2-3). -/
theorem GaugeRecord.read_open_window (g : GaugeSettings) (x : GaugeRecord) :
    (x.read g .loopOpen).window = x.window ∨ (x.read g .loopOpen).window = [] := by
  rw [read_open rfl]
  split
  · exact .inl rfl
  · exact .inl rfl
  · exact .inl rfl
  · split
    · exact .inl rfl
    · exact .inr rfl

/-- Settles O47: R26 as the model computes it, and the bounds from those of the settings. -/
theorem readingGivesClampedLevel : Obligations.ReadingGivesClampedLevel := by
  intro g r x hr mount _ span trimLow trimHigh
  obtain ⟨low, high⟩ := unclampedLevel_bounds hr mount span trimLow trimHigh
  have floored : ∃ scaled : Nat, scaled * 4095 ≤ r * g.span ∧ r * g.span < (scaled + 1) * 4095 ∧ scaled ≤ g.span
      ∧ unclampedLevel g r = (match g.kind with
          | .depth => g.mount + scaled + g.trim
          | .range => g.mount - scaled + g.trim) :=
    ⟨r * g.span / 4095, Nat.div_mul_le_self _ _, Nat.lt_mul_of_div_lt (Nat.lt_succ_self _) (by decide),
      scaled_le_span g.span hr, unclampedLevel_eq g r⟩
  refine ⟨floored, low, high, fun below => ?_, fun above => ?_, levelOf_eq_unclamped_iff.2, x.read_open_window g⟩
  · unfold levelOf clampInt; omega
  · unfold levelOf clampInt; omega

/-! ## The smoothing window (R27 to R31) -/

theorem rawCount_count {r : Nat} (h : r ≤ 4095) : rawCount (.count r) = some r := by
  rw [rawCount, Nat.min_eq_left h]

/-- A window of at most four keeps its levels but the oldest of four (R28). -/
theorem joinWindow_eq {w : List Int} (x : Int) (h : w.length ≤ 4) :
    joinWindow w x = (if w.length = 4 then w.tail else w) ++ [x] := by
  unfold joinWindow Config.windowSize
  split
  · rename_i full
    rw [full, List.drop_append_of_le_length (by omega), List.drop_one]
  · rw [show w.length + 1 - 4 = 0 by omega, List.drop_zero]

/-- A good reading is at the rail or clamped (R27). -/
theorem saturates_iff {g : GaugeSettings} {r : Nat} :
    saturates g r = true ↔ r = 0 ∨ r = 4095 ∨ ¬LevelInRange (unclampedLevel g r) := by
  simp [saturates, ← levelOf_eq_unclamped_iff, or_assoc]

/-- The smoothed level of a gauge that is not FAILED is the floored mean of its window (R28). -/
theorem GaugeRecord.level_spec {x : GaugeRecord} (valid : x.condition ≠ .failed) (nonempty : x.window ≠ [])
    (levels : ∀ y ∈ x.window, LevelInRange y) :
    ∃ m : Int, x.level = some m ∧ LevelInRange m ∧ m * x.window.length ≤ x.window.sum
      ∧ x.window.sum < (m + 1) * x.window.length := by
  have positive : 0 < (x.window.length : Int) := by exact_mod_cast List.length_pos_iff.2 nonempty
  refine ⟨x.window.sum / (x.window.length : Int), ?_, mean_levelInRange levels nonempty, ?_, ?_⟩
  · unfold GaugeRecord.level
    rw [if_neg (by simp [valid, nonempty])]
  · exact Int.ediv_mul_le _ positive.ne'
  · exact Int.lt_ediv_add_one_mul_self _ positive

/-- Settles O48: the rows of Table 2-3 for a good reading and for a LOOP OPEN. -/
theorem smoothedLevelIsFlooredMean : Obligations.SmoothedLevelIsFlooredMean := by
  intro g r x hr length levels
  have count := rawCount_count hr
  have good := GaugeRecord.read_good (g := g) (x := x) count
  have condition := GaugeRecord.read_good_condition (g := g) (x := x) count
  obtain ⟨nonempty, short, windowLevels⟩ := GaugeRecord.read_good_window (g := g) count levels
  refine ⟨fun h => ?_, fun h => ?_, List.length_pos_iff.2 nonempty, short,
    GaugeRecord.level_spec (GaugeRecord.read_good_not_failed count) nonempty windowLevels,
    GaugeRecord.read_good_holdCount count, ?_, ?_, GaugeRecord.read_open rfl⟩
  · rw [good]; simp only [if_neg h, joinWindow_eq _ length]
  · rw [good]; simp only [if_pos h]
  · rw [condition, ← saturates_iff]; simp
  · have ok : (x.read g (.count r)).condition = .ok ↔ ¬(r = 0 ∨ r = 4095 ∨ ¬LevelInRange (unclampedLevel g r)) := by
      rw [condition, ← saturates_iff]; simp
    rw [ok]
    unfold LevelInRange
    omega

end Sys2Proof.Machine
end

section
/-! SUPPORT. What a sample leaves in the Gauge Unit and the Meter (R23 to R46, R53). -/

-- One proof after another, as in Laws: in parallel, the threads of so many outgrow the memory the check allows.
set_option Elab.async false

namespace Sys2Proof.Machine

open Sys2Proof Sys2Proof.Safety

variable {s : State}

/-! ## The state that the readings find -/

theorem State.beginSample_gauges : s.beginSample.gauges = s.gauges := beginSample_touches.same .gauges

theorem State.beginSample_settings : s.beginSample.settings = s.settings := beginSample_touches.same .settings

/-- The beginning of a sample moves the timers of a pump and not its state. -/
theorem State.beginSample_pump_state (p : PumpId) : s.beginSample.pumps[p].state = s.pumps[p].state := by
  simp only [beginSample, withMeter_pumps, countTimers_pump]
  rfl

theorem State.readGauges_meter (xs : Vector LoopInput 4) : (s.readGauges xs).meter = s.meter :=
  readGauges_touches.same .meter

theorem State.readGauges_settings (xs : Vector LoopInput 4) : (s.readGauges xs).settings = s.settings :=
  readGauges_touches.same .settings

theorem State.readGauges_pumps (xs : Vector LoopInput 4) : (s.readGauges xs).pumps = s.pumps :=
  readGauges_touches.same .pumps

theorem State.readGauges_second (xs : Vector LoopInput 4) : (s.readGauges xs).second = s.second :=
  readGauges_touches.same .second

/-! ## The Meter -/

/-- The charges leave what the Meter has measured. -/
theorem State.meterSample_meter : s.meterSample.meter = s.takeFlows.takeVolumes.meter :=
  (OnlyTouches.each (fun _ _ => chargeBay_touches) allBays s.takeFlows.takeVolumes).same .meter

theorem State.meterSample_flows (p : PumpId) :
    s.meterSample.meter.flows[p] = computedFlow s.settings.pumps[p].curve s.gauges.heads[bayOf p] := by
  rw [meterSample_meter]
  simp [takeVolumes, takeFlows]

theorem State.meterSample_runSeconds (p : PumpId) :
    s.meterSample.meter.runSeconds[p] =
      if s.pumps[p].state = .lifting then min Config.wordBound (s.meter.runSeconds[p] + 1) else s.meter.runSeconds[p] := by
  rw [meterSample_meter]
  simp [takeVolumes, takeFlows, lifts]

/-- A pump that is LIFTING contributes its flow (R45). -/
theorem State.contribution_eq :
    s.contribution = fun p => if s.pumps[p].state = .lifting then (s.meter.flows[p]).getD 0 else 0 := by
  funext p
  simp [contribution, lifts]

theorem State.meterSample_volumes (b : BayId) :
    s.meterSample.meter.volumes[b] =
      ((pumpsOf b).map fun p => if s.pumps[p].state = .lifting then (s.meterSample.meter.flows[p]).getD 0 else 0).sum := by
  rw [meterSample_meter]
  simp [takeVolumes, takeFlows, contribution_eq]

/-! ## The sample -/

section
variable (xs : Vector LoopInput 4)

theorem State.sample_meter : (s.sample xs).meter = (s.beginSample.readGauges xs).meterSample.meter :=
  sample_touches_after_metering.same .meter

theorem State.sample_settings : (s.sample xs).settings = s.settings := sample_touches.same .settings

/-- The flows of a sample are those of the heads that it leaves (R39, R40). -/
theorem State.sample_flows (p : PumpId) :
    (s.sample xs).meter.flows[p] = computedFlow s.settings.pumps[p].curve (s.sample xs).gauges.heads[bayOf p] := by
  rw [sample_meter, meterSample_flows, readGauges_settings, beginSample_settings, sample_gauges]

/-- A pump that was LIFTING has run one second more (R53). -/
theorem State.sample_runSeconds (p : PumpId) :
    (s.sample xs).meter.runSeconds[p] =
      if s.pumps[p].state = .lifting then min Config.wordBound (s.meter.runSeconds[p] + 1) else s.meter.runSeconds[p] := by
  rw [sample_meter, meterSample_runSeconds, readGauges_pumps, beginSample_pump_state, readGauges_meter]
  rfl

/-- A bay's sample volume is what its pumps that were LIFTING have lifted (R46). -/
theorem State.sample_volumes (b : BayId) :
    (s.sample xs).meter.volumes[b] =
      ((pumpsOf b).map fun p => if s.pumps[p].state = .lifting then ((s.sample xs).meter.flows[p]).getD 0 else 0).sum := by
  simp only [sample_meter, meterSample_volumes, readGauges_pumps, beginSample_pump_state]

end

/-- A command that samples leaves its sample (R43). -/
theorem exec_sample_live {river bay0 bay1 bay2 : LoopInput} (live : s.isLive) :
    exec (.sample river bay0 bay1 bay2) s = .next (s.sample #v[river, bay0, bay1, bay2]) :=
  congrArg Host.Outcome.next (if_pos live)

/-! ## Pump curves (R38, R39) -/

/-- The heads of two points rise and their flows do not (R38). -/
def Falls (a b : CurvePoint) : Prop := a.head < b.head ∧ b.flow ≤ a.flow

/-- The interpolated flow between two points (R39). -/
def flowBetween (a b : CurvePoint) (h : Int) : Int :=
  a.flow - (a.flow - b.flow) * (h - a.head) / (b.head - a.head)

/-- A head on a point has that point's flow (R39). -/
theorem flowBetween_self (a b : CurvePoint) : flowBetween a b a.head = a.flow := by simp [flowBetween]

/-- An interpolated flow lies between those of its two points, and above the lower one where they differ (R39). -/
theorem flowBetween_bounds {a b : CurvePoint} {h : Int} (falls : Falls a b) (low : a.head ≤ h) (high : h < b.head) :
    b.flow ≤ flowBetween a b h ∧ flowBetween a b h ≤ a.flow ∧ (a.flow ≠ b.flow → b.flow < flowBetween a b h) := by
  obtain ⟨-, flow⟩ := falls
  have width : 0 < b.head - a.head := by omega
  have drop : 0 ≤ (a.flow - b.flow) * (h - a.head) / (b.head - a.head) :=
    Int.ediv_nonneg (mul_nonneg (by omega) (by omega)) width.le
  have whole : (a.flow - b.flow) * (h - a.head) / (b.head - a.head) ≤ a.flow - b.flow :=
    Int.ediv_le_of_le_mul width (mul_le_mul_of_nonneg_left (by omega) (by omega))
  have short (differ : a.flow ≠ b.flow) : (a.flow - b.flow) * (h - a.head) / (b.head - a.head) < a.flow - b.flow :=
    Int.ediv_lt_of_lt_mul width (mul_lt_mul_of_pos_left (by omega) (by omega))
  unfold flowBetween
  exact ⟨by omega, by omega, fun differ => by have := short differ; omega⟩

theorem Falls.trans {a b c : CurvePoint} (h : Falls a b) (g : Falls b c) : Falls a c :=
  ⟨h.1.trans g.1, g.2.trans h.2⟩

theorem pairwiseNext_iff {r : CurvePoint → CurvePoint → Bool} {xs : List CurvePoint} :
    pairwiseNext r xs = true ↔ xs.IsChain fun a b => r a b = true := by
  induction xs using pairwiseNext.induct with
  | case1 a b rest ih => simp [pairwiseNext, ih]
  | case2 xs short =>
    match xs, short with
    | [], _ => simp [pairwiseNext]
    | [a], _ => simp [pairwiseNext]
    | a :: b :: rest, short => exact absurd rfl (short a b rest)

/-- The condition on neighbouring points (R38). -/
theorem pairwiseNext_falls_iff {xs : List CurvePoint} :
    pairwiseNext (fun a b => decide (a.head < b.head) && decide (b.flow ≤ a.flow)) xs = true ↔ xs.IsChain Falls := by
  rw [pairwiseNext_iff]
  simp only [Bool.and_eq_true, decide_eq_true_eq]
  rfl

/-- A curve is valid exactly by the four conditions of R38. -/
theorem curveValid_iff {curve : Vector CurvePoint 8} :
    curveValid curve = true ↔
      (∀ j : Fin 7, curve[j.val].head < curve[j.val + 1].head ∧ curve[j.val + 1].flow ≤ curve[j.val].flow)
      ∧ (∀ j : Fin 8, -20000 ≤ curve[j].head ∧ curve[j].head ≤ 22000) ∧ curve[0].flow ≤ 5000 ∧ 0 ≤ curve[7].flow := by
  have neighbours : curve.toList.IsChain Falls ↔
      ∀ j : Fin 7, curve[j.val].head < curve[j.val + 1].head ∧ curve[j.val + 1].flow ≤ curve[j.val].flow := by
    rw [List.isChain_iff_getElem]
    simp only [Vector.length_toList, Vector.getElem_toList]
    exact ⟨fun h j => h j.val (by omega), fun h i hi => h ⟨i, by omega⟩⟩
  have heads : (∀ x ∈ curve.toList, -20000 ≤ x.head ∧ x.head ≤ 22000) ↔
      ∀ j : Fin 8, -20000 ≤ curve[j].head ∧ curve[j].head ≤ 22000 := by
    simp only [Vector.mem_toList_iff, Vector.mem_iff_getElem]
    exact ⟨fun h j => h _ ⟨j.val, j.isLt, rfl⟩, fun h x ⟨i, hi, e⟩ => e ▸ h ⟨i, hi⟩⟩
  rw [curveValid, ← neighbours, ← heads, ← pairwiseNext_falls_iff]
  simp only [Bool.and_eq_true, List.all_eq_true, decide_eq_true_eq, and_assoc]

/-- Any two points of a falling list fall. -/
theorem falls_pairwise {xs : List CurvePoint} (h : xs.IsChain Falls) : xs.Pairwise Falls :=
  have : IsTrans CurvePoint Falls := ⟨fun _ _ _ => Falls.trans⟩
  List.isChain_iff_pairwise.1 h

/-- On a falling list the segment that holds the head gives the flow (R39). -/
theorem segmentFlow_eq_between {h : Int} {xs : List CurvePoint} (falls : xs.Pairwise Falls) {k : Nat}
    (hk : k + 1 < xs.length) (low : xs[k].head ≤ h) (high : h < xs[k + 1].head) :
    segmentFlow h xs = flowBetween xs[k] xs[k + 1] h := by
  induction xs generalizing k with
  | nil => simp at hk
  | cons a rest ih =>
    cases rest with
    | nil => simp at hk
    | cons b rest =>
      cases k with
      | zero => exact if_pos high
      | succ k =>
        have tail : (b :: rest).Pairwise Falls := (List.pairwise_cons.1 falls).2
        have past : b.head ≤ h := by
          cases k with
          | zero => exact low
          | succ k =>
            have := (List.pairwise_cons.1 tail).1 (rest[k]'(by simp at hk; omega)) (List.getElem_mem _)
            exact this.1.le.trans low
        rw [segmentFlow, if_neg (not_lt.2 past)]
        exact ih tail (by simpa using hk) low high

/-- Past every head the last flow holds (R39). -/
theorem segmentFlow_past {h : Int} {xs : List CurvePoint} (nonempty : xs ≠ []) (past : ∀ x ∈ xs, x.head ≤ h) :
    segmentFlow h xs = (xs.getLast nonempty).flow := by
  induction xs with
  | nil => exact absurd rfl nonempty
  | cons a rest ih =>
    cases rest with
    | nil => rfl
    | cons b rest =>
      rw [segmentFlow, if_neg (not_lt.2 (past b (by simp))), ih (by simp) fun x hx => past x (List.mem_cons_of_mem _ hx)]
      simp

/-- Every flow of a falling list lies between those of its points (R39). -/
theorem segmentFlow_bounds {h low high : Int} {xs : List CurvePoint} (falls : xs.IsChain Falls)
    (flows : ∀ x ∈ xs, low ≤ x.flow ∧ x.flow ≤ high) (nonempty : xs ≠ []) (above : ∀ x ∈ xs.head?, x.head ≤ h) :
    low ≤ segmentFlow h xs ∧ segmentFlow h xs ≤ high := by
  induction xs with
  | nil => exact absurd rfl nonempty
  | cons a rest ih =>
    cases rest with
    | nil => exact flows a (by simp)
    | cons b rest =>
      obtain ⟨falls, tail⟩ := List.isChain_cons_cons.1 falls
      rw [segmentFlow]
      split
      · have inside := flowBetween_bounds falls (above a rfl) ‹_›
        exact ⟨(flows b (by simp)).1.trans inside.1, inside.2.1.trans (flows a (by simp)).2⟩
      · refine ih tail (fun x hx => flows x (List.mem_cons_of_mem _ hx)) (by simp) fun x hx => ?_
        cases hx
        omega

/-- The flow of a valid curve past its first point is that of its list of points (R39). -/
theorem flowAt_of_lt {curve : Vector CurvePoint 8} {h : Int} (above : curve[0].head < h) :
    flowAt curve h = segmentFlow h curve.toList := if_neg (not_le.2 above)

theorem flowAt_of_le {curve : Vector CurvePoint 8} {h : Int} (below : h ≤ curve[0].head) : flowAt curve h = curve[0].flow :=
  if_pos below

section
variable {curve : Vector CurvePoint 8} {h : Int}

theorem curveValid_chain (valid : curveValid curve = true) : curve.toList.IsChain Falls := by
  simp only [curveValid, Bool.and_eq_true] at valid
  exact pairwiseNext_falls_iff.1 valid.1.1.1

/-- Of two points of a valid curve the later one has the greater head and no greater flow (R38). -/
theorem curveValid_falls (valid : curveValid curve = true) {i j : Nat} (hj : j < 8) (hij : i < j) : Falls curve[i] curve[j] := by
  have := List.pairwise_iff_getElem.1 (falls_pairwise (curveValid_chain valid)) i j (by simp; omega) (by simpa using hj) hij
  simpa using this

/-- The flow on a segment of a valid curve (R39). -/
theorem flowAt_eq_between (valid : curveValid curve = true) {k : Nat} (hk : k < 7) (low : curve[k].head ≤ h)
    (high : h < curve[k + 1].head) : flowAt curve h = flowBetween curve[k] curve[k + 1] h := by
  by_cases below : h ≤ curve[0].head
  · have zero : k = 0 := by
      by_contra later
      have := (curveValid_falls valid (i := 0) (j := k) (by omega) (by omega)).1
      omega
    subst zero
    have on : h = curve[0].head := le_antisymm below low
    rw [flowAt_of_le below, on, flowBetween_self]
  · rw [flowAt_of_lt (not_le.1 below),
      segmentFlow_eq_between (falls_pairwise (curveValid_chain valid)) (k := k) (by simp; omega) (by simpa using low)
        (by simpa using high)]
    simp

/-- At or above the last head the last flow holds (R39). -/
theorem flowAt_last (valid : curveValid curve = true) (past : curve[7].head ≤ h) : flowAt curve h = curve[7].flow := by
  have ends := (curveValid_falls valid (i := 0) (j := 7) (by decide) (by decide)).1
  have nonempty : curve.toList ≠ [] := List.ne_nil_of_length_pos (by simp)
  have all : ∀ x ∈ curve.toList, x.head ≤ h := by
    intro x hx
    obtain ⟨i, hi, rfl⟩ := Vector.mem_iff_getElem.1 (Vector.mem_toList_iff.1 hx)
    obtain rfl | lt : i = 7 ∨ i < 7 := by omega
    · exact past
    · exact (curveValid_falls valid (by decide) lt).1.le.trans past
  rw [flowAt_of_lt (by omega), segmentFlow_past nonempty all, List.getLast_eq_getElem]
  simp

/-- Every flow of a valid curve lies between its last and its first (R39). -/
theorem flowAt_bounds (valid : curveValid curve = true) : curve[7].flow ≤ flowAt curve h ∧ flowAt curve h ≤ curve[0].flow := by
  have ends := (curveValid_falls valid (i := 0) (j := 7) (by decide) (by decide)).2
  by_cases below : h ≤ curve[0].head
  · rw [flowAt_of_le below]; exact ⟨ends, le_refl _⟩
  · rw [flowAt_of_lt (not_le.1 below)]
    refine segmentFlow_bounds (curveValid_chain valid) (fun x hx => ?_) (List.ne_nil_of_length_pos (by simp)) fun x hx => ?_
    · obtain ⟨i, hi, rfl⟩ := Vector.mem_iff_getElem.1 (Vector.mem_toList_iff.1 hx)
      constructor
      · obtain rfl | lt : i = 7 ∨ i < 7 := by omega
        · exact le_refl _
        · exact (curveValid_falls valid (by decide) lt).2
      · obtain rfl | lt : i = 0 ∨ 0 < i := by omega
        · exact le_refl _
        · exact (curveValid_falls valid hi lt).2
    · have : curve[0] = x := by simpa [List.head?_eq_getElem?] using hx
      rw [← this]
      omega

end

/-- Settles O49: R39 segment by segment, and a sample's flows and volumes. -/
theorem flowFollowsTheCurve : Obligations.FlowFollowsTheCurve := by
  intro curve h k river bay0 bay1 bay2 s
  refine ⟨curveValid_iff, fun valid => ?_, fun live => ⟨_, exec_sample_live live, fun p x hx valid => ?_, s.sample_volumes _⟩⟩
  · have falls := curveValid_falls valid (i := k.val) (j := k.val + 1) (by omega) (by omega)
    obtain ⟨atLeast, atMost⟩ := flowAt_bounds (h := h) valid
    refine ⟨flowAt_of_le, flowAt_last valid, flowAt_eq_between valid k.isLt, fun on => ?_, fun low high differ => ?_, atLeast,
      atMost⟩
    · rw [flowAt_eq_between valid k.isLt on.ge (on ▸ falls.1), on, flowBetween_self]
    · rw [flowAt_eq_between valid k.isLt low high]
      exact (flowBetween_bounds falls low high).2.2 differ
  · rw [State.sample_flows, Option.mem_def.1 hx]
    exact if_pos valid

end Sys2Proof.Machine
end

section
/-! SUPPORT. What is never taken back while the blocks settle: flags stay up, ports keep their report settings and timers, JAMMED
gates stay JAMMED, and no pump comes to FAULT while RUNNING without PUMP_FAULT (R133, R145, R171, R174). One lemma per shared
operation, in the order of Laws/Touches. -/

-- One proof after another, as in Laws: in parallel, the threads of so many outgrow the memory the check allows.
set_option Elab.async false

namespace Sys2Proof.Safety

open Sys2Proof Sys2Proof.Machine

/-! ## Signals and their order -/

/-- A station flag is up and its report event has been taken by every port that may take it. -/
def Told (f : StationFlag) (e : ReportEvent) (s t : State) : Prop := FlagUp f t ∧ EventTakenByAll e s t

/-- A port keeps what it reports by, and its flags stay up. -/
def PortKept (q r : Port) : Prop :=
  r.mask = q.mask ∧ r.interval = q.interval ∧ ∀ x : BitVec 16, q.flags &&& x ≠ 0 → r.flags &&& x ≠ 0

/-- Flags that are up stay up, and what they are raised by stays as it is. -/
structure FlagsKept (s t : State) : Prop where
  settings : t.settings = s.settings
  running : s.isRunning → t.isRunning
  river : ∀ f, FlagUp f s → FlagUp f t
  ports : ∀ d : DistrictId, PortKept s.ports[d] t.ports[d]
  jammed : ∀ i : IntakeId, s.gates[i].state = .jammed → t.gates[i].state = .jammed

/-- So they do, no always-report timer moves, and a pump that has come to FAULT while RUNNING has been told of (R133, R173). -/
structure SignalsKept (s t : State) : Prop extends FlagsKept s t where
  timers : ∀ d : DistrictId, t.ports[d].timer = s.ports[d].timer
  faults : s.isRunning → ∀ p : PumpId, t.pumps[p].state = .fault →
    s.pumps[p].state = .fault ∨ Told .pumpFault .pumpFault s t

variable {s t u : State} {bs : List Block} {f : StationFlag} {e : ReportEvent} {d : DistrictId}

theorem PortKept.refl (q : Port) : PortKept q q := ⟨rfl, rfl, fun _ h => h⟩

theorem PortKept.trans {q r x : Port} (h : PortKept q r) (g : PortKept r x) : PortKept q x :=
  ⟨g.1.trans h.1, g.2.1.trans h.2.1, fun b hb => g.2.2 b (h.2.2 b hb)⟩

theorem FlagsKept.andThen (h : FlagsKept s t) (g : FlagsKept t u) : FlagsKept s u :=
  ⟨g.settings.trans h.settings, fun r => g.running (h.running r), fun f up => g.river f (h.river f up),
    fun d => (h.ports d).trans (g.ports d), fun i j => g.jammed i (h.jammed i j)⟩

/-- An event taken later has been taken since. -/
theorem EventTaken.since (h : FlagsKept s t) (taken : EventTaken e d t u) : EventTaken e d s u := by
  intro enabled masked
  exact taken (by rw [h.settings]; exact enabled) (by rw [(h.ports d).1]; exact masked)

/-- An event once taken stays taken. -/
theorem EventTaken.stays (taken : EventTaken e d s t) (h : FlagsKept t u) : EventTaken e d s u :=
  fun enabled masked => (h.ports d).2.2 _ (taken enabled masked)

theorem Told.since (h : FlagsKept s t) (told : Told f e t u) : Told f e s u :=
  ⟨told.1, fun d => (told.2 d).since h⟩

theorem Told.stays (told : Told f e s t) (h : FlagsKept t u) : Told f e s u :=
  ⟨h.river f told.1, fun d => (told.2 d).stays h⟩

theorem SignalsKept.andThen (h : SignalsKept s t) (g : SignalsKept t u) : SignalsKept s u :=
  { toFlagsKept := h.toFlagsKept.andThen g.toFlagsKept
    timers := fun d => (g.timers d).trans (h.timers d)
    faults := fun r p fault => by
      obtain before | told := g.faults (h.running r) p fault
      · exact (h.faults r p before).imp_right fun told => told.stays g.toFlagsKept
      · exact .inr (told.since h.toFlagsKept) }

/-- The parts that hold signals and what they are raised by, but the pumps. -/
def flagParts : List Block := [.loader, .settings, .gates, .ports, .river]

theorem FlagsKept.of_touches (h : OnlyTouches bs s t) (hb : ∀ k ∈ flagParts, k ∉ bs := by decide) : FlagsKept s t where
  settings := h.same .settings (hb _ (by decide))
  running r := by rw [State.isRunning, h.same .loader (hb _ (by decide))]; exact r
  river f up := by rw [FlagUp, h.same .river (hb _ (by decide))]; exact up
  ports d := by rw [h.same .ports (hb _ (by decide))]; exact .refl _
  jammed i j := by rw [h.same .gates (hb _ (by decide))]; exact j

/-- A write of none of these parts keeps them. -/
theorem SignalsKept.of_touches (h : OnlyTouches bs s t) (hb : ∀ k ∈ Block.pumps :: flagParts, k ∉ bs := by decide) :
    SignalsKept s t where
  toFlagsKept := .of_touches h fun k hk => hb k (List.mem_cons_of_mem _ hk)
  timers d := by rw [h.same .ports (hb _ (by decide))]
  faults _ p fault := .inl (by rw [← h.same .pumps (hb _ (by decide))]; exact fault)

theorem SignalsKept.keep : SignalsKept s s := .of_touches (bs := []) .keep

theorem SignalsKept.ite {c : Prop} [Decidable c] (h : c → SignalsKept s t) (g : ¬c → SignalsKept s u) :
    SignalsKept s (if c then t else u) := by
  split
  · exact h ‹_›
  · exact g ‹_›

theorem SignalsKept.each {α : Type} {f : State → α → State} (h : ∀ t x, SignalsKept t (f t x)) (xs : List α) :
    ∀ s : State, SignalsKept s (s.each xs f) := by
  induction xs with
  | nil => exact fun _ => .keep
  | cons x xs ih => exact fun s => (h s x).andThen (ih _)

/-- A write of the River Port that takes no flag back. -/
theorem SignalsKept.of_river (h : OnlyTouches [.river] s t) (river : ∀ f, FlagUp f s → FlagUp f t) : SignalsKept s t where
  settings := h.same .settings
  running r := by rw [State.isRunning, h.same .loader]; exact r
  river := river
  ports d := by rw [h.same .ports]; exact .refl _
  jammed i j := by rw [h.same .gates]; exact j
  timers d := by rw [h.same .ports]
  faults _ p fault := .inl (by rw [← h.same .pumps]; exact fault)

/-- A write of the ports that takes no flag back. -/
theorem FlagsKept.of_ports (h : OnlyTouches [.ports] s t) (ports : ∀ d : DistrictId, PortKept s.ports[d] t.ports[d]) :
    FlagsKept s t where
  settings := h.same .settings
  running r := by rw [State.isRunning, h.same .loader]; exact r
  river f up := by rw [FlagUp, h.same .river]; exact up
  ports := ports
  jammed i j := by rw [h.same .gates]; exact j

/-- A write of the ports that takes no flag back and moves no timer. -/
theorem SignalsKept.of_ports (h : OnlyTouches [.ports] s t) (ports : ∀ d : DistrictId, PortKept s.ports[d] t.ports[d])
    (timers : ∀ d : DistrictId, t.ports[d].timer = s.ports[d].timer) : SignalsKept s t where
  toFlagsKept := .of_ports h ports
  timers := timers
  faults _ p fault := .inl (by rw [← h.same .pumps]; exact fault)

/-- A write of the gates that moves no JAMMED gate. -/
theorem SignalsKept.of_gates (h : OnlyTouches [.gates] s t)
    (jammed : ∀ i : IntakeId, s.gates[i].state = .jammed → t.gates[i].state = .jammed) : SignalsKept s t where
  settings := h.same .settings
  running r := by rw [State.isRunning, h.same .loader]; exact r
  river f up := by rw [FlagUp, h.same .river]; exact up
  ports d := by rw [h.same .ports]; exact .refl _
  jammed := jammed
  timers d := by rw [h.same .ports]
  faults _ p fault := .inl (by rw [← h.same .pumps]; exact fault)

/-- A move of pumps, none of them to FAULT. -/
theorem SignalsKept.of_pumps (h : OnlyTouches moveParts s t)
    (faults : ∀ p : PumpId, t.pumps[p].state = .fault → s.pumps[p].state = .fault) : SignalsKept s t where
  toFlagsKept := .of_touches h
  timers d := by rw [h.same .ports]
  faults _ p fault := .inl (faults p fault)

end Sys2Proof.Safety

namespace Sys2Proof.Machine

open Sys2Proof Sys2Proof.Safety

variable {s : State}

/-! ## Flags and reports -/

theorem Port.askReport_kept (q : Port) : PortKept q q.askReport ∧ q.askReport.timer = q.timer := by
  unfold Port.askReport
  split
  · exact ⟨.refl _, rfl⟩
  · split
    · exact ⟨.refl _, rfl⟩
    · exact ⟨.refl _, rfl⟩

theorem State.setPort_signals {d : DistrictId} {x : Port} (h : PortKept s.ports[d] x ∧ x.timer = s.ports[d].timer) :
    SignalsKept s (s.setPort d x) := by
  refine .of_ports setPort_touches (fun e => ?_) fun e => ?_
  all_goals rw [setPort_ports, set_get]; split
  · subst d; exact h.1
  · exact .refl _
  · subst d; exact h.2
  · rfl

theorem State.raiseStation_signals {f : StationFlag} : SignalsKept s (s.raiseStation f) :=
  .of_river raiseStation_touches fun g up => by
    rw [FlagUp, raiseStation_flags]
    split
    · exact or_keeps_bit _ _ _ up
    · exact up

theorem State.reportTo_signals {d : DistrictId} {e : ReportEvent} : SignalsKept s (s.reportTo d e) :=
  .ite (fun _ => setPort_signals (by
      obtain ⟨kept, timer⟩ := Port.askReport_kept { s.ports[d] with flags := s.ports[d].flags ||| e.bit }
      exact ⟨⟨kept.1, kept.2.1, fun x up => kept.2.2 x (or_keeps_bit _ _ _ up)⟩, timer⟩))
    fun _ => .keep

theorem State.reportAll_signals {e : ReportEvent} : SignalsKept s (s.reportAll e) := .each (fun _ _ => reportTo_signals) _ _

theorem State.raiseHeadBlind_signals : SignalsKept s s.raiseHeadBlind := raiseStation_signals.andThen reportAll_signals

theorem State.raisePumpFault_signals : SignalsKept s s.raisePumpFault := raiseStation_signals.andThen reportAll_signals

/-- A flag raised while RUNNING is up (R174). -/
theorem State.raiseStation_up {f : StationFlag} (h : s.isRunning) : FlagUp f (s.raiseStation f) := by
  rw [FlagUp, raiseStation_flags, if_pos h]
  exact or_sets_bit _ _ (by cases f <;> decide)

/-- A port told of an event while RUNNING has taken it, if it may (R171). -/
theorem State.reportTo_taken {d : DistrictId} {e : ReportEvent} (h : s.isRunning) : EventTaken e d s (s.reportTo d e) := by
  intro enabled masked
  rw [reportTo_flags, if_pos ⟨h, enabled, masked⟩]
  exact or_sets_bit _ _ (by cases e <;> decide)

/-- So has each port of a list that is told, one after another. -/
theorem State.each_taken {e : ReportEvent} {d : DistrictId} {act : State → DistrictId → State}
    (kept : ∀ t x, SignalsKept t (act t x))
    (taken : ∀ t : State, FlagsKept s t → t.isRunning → EventTaken e d t (act t d)) :
    ∀ {xs : List DistrictId} {t : State}, FlagsKept s t → t.isRunning → d ∈ xs → EventTaken e d t (t.each xs act) := by
  intro xs
  induction xs with
  | nil => exact fun _ _ member => absurd member (by simp)
  | cons x xs ih =>
    intro t since running member
    have step := kept t x
    by_cases same : d = x
    · subst same
      exact (taken t since running).stays (SignalsKept.each kept xs _).toFlagsKept
    · have later := ih (since.andThen step.toFlagsKept) (step.running running) ((List.mem_cons.1 member).resolve_left same)
      exact later.since step.toFlagsKept

theorem mem_allDistricts (d : DistrictId) : d ∈ allDistricts := by revert d; decide

theorem mem_allBays (b : BayId) : b ∈ allBays := by revert b; decide

theorem mem_allPumps (p : PumpId) : p ∈ allPumps := by revert p; decide

theorem mem_allIntakes (i : IntakeId) : i ∈ allIntakes := by revert i; decide

theorem State.reportAll_taken {e : ReportEvent} (h : s.isRunning) : EventTakenByAll e s (s.reportAll e) := fun d =>
  each_taken (s := s) (act := fun t d => t.reportTo d e) (fun _ _ => reportTo_signals)
    (fun _ _ running => reportTo_taken running) SignalsKept.keep.toFlagsKept h (mem_allDistricts d)

theorem State.raised_told {f : StationFlag} {e : ReportEvent} (h : s.isRunning) :
    Told f e s ((s.raiseStation f).reportAll e) :=
  have raised : SignalsKept s (s.raiseStation f) := raiseStation_signals
  ⟨reportAll_signals.river f (raiseStation_up h), fun d => (reportAll_taken (raised.running h) d).since raised.toFlagsKept⟩

/-! ## Gates -/

theorem State.startOpening_signals {i : IntakeId} (h : s.gates[i].state ≠ .jammed) : SignalsKept s (s.startOpening i) :=
  .of_gates startOpening_touches fun j jammed => by
    rw [startOpening_others j fun same : j = i => h (by rw [← same]; exact jammed)]
    exact jammed

theorem State.startClosing_signals {i : IntakeId} (h : s.gates[i].state ≠ .jammed) : SignalsKept s (s.startClosing i) :=
  .of_gates startClosing_touches fun j jammed => by
    rw [startClosing_others j fun same : j = i => h (by rw [← same]; exact jammed)]
    exact jammed

theorem State.openGate_signals {i : IntakeId} : SignalsKept s (s.openGate i) := by
  unfold openGate
  split
  · exact startOpening_signals (by rename_i state; rw [state]; decide)
  · exact startOpening_signals (by rename_i state; rw [state]; decide)
  all_goals exact .keep

theorem State.closeGate_signals {i : IntakeId} : SignalsKept s (s.closeGate i) := by
  unfold closeGate
  split
  · exact startClosing_signals (by rename_i state; rw [state]; decide)
  · exact startClosing_signals (by rename_i state; rw [state]; decide)
  all_goals exact .keep

theorem State.openGates_signals {xs : List IntakeId} : SignalsKept s (s.openGates xs) :=
  .each (fun _ _ => openGate_signals) _ _

theorem State.closeGates_signals {xs : List IntakeId} : SignalsKept s (s.closeGates xs) :=
  .each (fun _ _ => closeGate_signals) _ _

/-! ## Pumps -/

theorem State.setPump_signals {p : PumpId} {x : Pump} (h : x.state = .fault → s.pumps[p].state = .fault) :
    SignalsKept s (s.setPump p x) :=
  .of_pumps setPump_touches.mono fun q fault => by
    rw [setPump_pumps, set_get] at fault
    split at fault
    · subst p; exact h fault
    · exact fault

/-- A change of a fault record that leaves the pump's state. -/
theorem State.setRecord_signals {p : PumpId} {k : Option FaultKind} {xs : List FaultKind} :
    SignalsKept s (s.setPump p { s.pumps[p] with primary := k, noted := xs }) :=
  setPump_signals fun h => h

theorem State.moveTo_signals {p : PumpId} {x : PumpState} (h : x ≠ .fault) : SignalsKept s (s.moveTo p x) :=
  .of_pumps moveTo_touches fun q fault => by
    rw [moveTo_pumps, set_get] at fault
    split at fault
    · exact absurd fault h
    · exact fault

/-- A pump that enters FAULT is told of (R133). -/
theorem State.faultWith_signals {p : PumpId} {k : FaultKind} {xs : List FaultKind} : SignalsKept s (s.faultWith p k xs) := by
  have moved : OnlyTouches moveParts s
      ((s.setPump p { s.pumps[p] with primary := some k, noted := xs }).moveTo p .fault) :=
    setPump_touches.andThen moveTo_touches
  have kept := FlagsKept.of_touches moved
  exact
    { toFlagsKept := kept.andThen raisePumpFault_signals.toFlagsKept
      timers := fun d => (raisePumpFault_signals.timers d).trans (by rw [moved.same .ports])
      faults := fun running _ _ => .inr ((raised_told (kept.running running)).since kept) }

theorem State.toIdle_signals {p : PumpId} : SignalsKept s (s.toIdle p) :=
  .ite (fun _ => (moveTo_signals (by decide)).andThen faultWith_signals) fun _ => moveTo_signals (by decide)

theorem State.leaveFault_signals {p : PumpId} : SignalsKept s (s.leaveFault p) :=
  .ite (fun _ => setRecord_signals.andThen (moveTo_signals (by decide))) fun _ =>
    setRecord_signals.andThen toIdle_signals

theorem State.closeUp_signals {p : PumpId} {gone : FaultKind → Bool} : SignalsKept s (s.closeUp p gone) := by
  unfold closeUp
  dsimp only
  split
  · split
    · split
      · split
        · exact leaveFault_signals
        · exact setRecord_signals
      · exact setRecord_signals
    · exact .keep
  · exact setRecord_signals
  all_goals exact .keep

theorem State.selfClear_signals {p : PumpId} : SignalsKept s (s.selfClear p) :=
  .ite (fun _ => closeUp_signals) fun _ => .keep

theorem State.fault_signals {p : PumpId} {k : FaultKind} : SignalsKept s (s.fault p k) :=
  faultWith_signals.andThen selfClear_signals

theorem State.note_signals {p : PumpId} {k : FaultKind} : SignalsKept s (s.note p k) :=
  .ite (fun _ => .keep) fun _ => setRecord_signals.andThen raisePumpFault_signals

theorem State.endRundown_signals {p : PumpId} : SignalsKept s (s.endRundown p) := by
  unfold endRundown
  split
  · exact faultWith_signals.andThen selfClear_signals
  · exact .ite (fun _ => moveTo_signals (by decide)) fun _ => toIdle_signals

theorem State.toRundown_signals {p : PumpId} : SignalsKept s (s.toRundown p) :=
  .ite (fun _ => moveTo_signals (by decide)) fun _ => (moveTo_signals (by decide)).andThen endRundown_signals

theorem State.hotWhileRunning_signals {p : PumpId} : SignalsKept s (s.hotWhileRunning p) := by
  unfold hotWhileRunning
  split
  · exact fault_signals
  · exact note_signals.andThen toRundown_signals

theorem State.toLifting_signals {p : PumpId} : SignalsKept s (s.toLifting p) :=
  .ite (fun _ => (moveTo_signals (by decide)).andThen hotWhileRunning_signals) fun _ => moveTo_signals (by decide)

theorem State.afterStarting_signals {p : PumpId} : SignalsKept s (s.afterStarting p) :=
  .ite (fun _ => hotWhileRunning_signals) fun _ => .ite (fun _ => toLifting_signals) fun _ => .keep

theorem State.toPrimed_signals {p : PumpId} : SignalsKept s (s.toPrimed p) :=
  .ite (fun _ => (moveTo_signals (by decide)).andThen fault_signals) fun _ => moveTo_signals (by decide)

theorem State.toPriming_signals {p : PumpId} : SignalsKept s (s.toPriming p) :=
  .ite (fun _ => (moveTo_signals (by decide)).andThen fault_signals) fun _ =>
    .ite (fun _ => (moveTo_signals (by decide)).andThen toPrimed_signals) fun _ => moveTo_signals (by decide)

theorem State.callPump_signals {p : PumpId} : SignalsKept s (s.callPump p) :=
  .ite (fun _ => toPriming_signals) fun _ => .keep

theorem State.withdrawCall_signals {p : PumpId} : SignalsKept s (s.withdrawCall p) :=
  .ite (fun _ => toIdle_signals) fun _ => .keep

theorem State.stopPump_signals {p : PumpId} : SignalsKept s (s.stopPump p) :=
  .ite (fun _ => toRundown_signals) fun _ => .keep

/-! ## Orders -/

theorem State.queueDone_signals {d : DistrictId} {f : DoneFrame} : SignalsKept s (s.queueDone d f) :=
  setPort_signals ⟨.refl _, rfl⟩

theorem State.endOrder_signals {d : DistrictId} {o : Order} : SignalsKept s (s.endOrder d o) :=
  .ite (fun _ => (SignalsKept.of_touches setOrders_touches).andThen queueDone_signals) fun _ => .of_touches setOrders_touches

theorem State.testOrder_signals {d : DistrictId} {o : Order} : SignalsKept s (s.testOrder d o) :=
  .ite (fun _ => endOrder_signals) fun _ => .keep

theorem State.endPortions_signals {es : List Ending} : SignalsKept s (s.endPortions es) :=
  (SignalsKept.each (fun _ _ => .of_touches setPortion_touches) _ _).andThen
    (.each (fun _ _ => .each (fun _ _ => testOrder_signals) _ _) _ _)

/-! ## Grants -/

theorem State.startGrant_signals {b : BayId} {w : Contender} : SignalsKept s (s.startGrant b w) :=
  (((SignalsKept.of_touches installGrant_touches).andThen (.of_touches setPortion_touches)).andThen openGates_signals).andThen
    reportTo_signals

theorem State.arbitrateAt_signals {b : BayId} {v : Service} : SignalsKept s (s.arbitrateAt b v) := by
  unfold arbitrateAt
  split
  · exact .keep
  · split
    · exact startGrant_signals
    · exact .keep

theorem State.arbitrateAll_signals : SignalsKept s s.arbitrateAll := .each (fun _ _ => arbitrateAt_signals) _ _

theorem State.reportEnd_signals {d : DistrictId} {reset : Bool} : SignalsKept s (s.reportEnd d reset) :=
  .ite (fun _ => .keep) fun _ => reportTo_signals

theorem State.handOver_signals {b : BayId} {g : Grant} {xs : List IntakeId} {reset : Bool} {w : Contender} :
    SignalsKept s (s.handOver b g xs reset w) :=
  (((((SignalsKept.of_touches installGrant_touches).andThen (.of_touches setPortion_touches)).andThen
    closeGates_signals).andThen openGates_signals).andThen reportEnd_signals).andThen reportTo_signals

theorem State.freeBay_signals {b : BayId} {g : Grant} {xs : List IntakeId} {reset : Bool} :
    SignalsKept s (s.freeBay b g xs reset) :=
  ((((SignalsKept.of_touches setGrant_touches).andThen
    (.each (fun _ _ => stopPump_signals.andThen withdrawCall_signals) _ _)).andThen closeGates_signals).andThen
      reportEnd_signals).andThen (.each (fun _ _ => selfClear_signals) _ _)

theorem State.closeGrant_signals {b : BayId} {g : Grant} {xs : List IntakeId} {reset : Bool} :
    SignalsKept s (s.closeGrant b g xs reset) := by
  unfold closeGrant
  split
  · exact handOver_signals
  · exact freeBay_signals

theorem State.runCapReached_signals {b : BayId} {g : Grant} {p : Portion} {lifting : Bool} :
    SignalsKept s (s.runCapReached b g p lifting) := by
  have returned : SignalsKept s (s.setPortion g.district g.tag b .pending) := .of_touches setPortion_touches
  unfold runCapReached
  dsimp only
  split
  · split
    · exact returned.andThen (.of_touches renew_touches)
    · exact returned.andThen handOver_signals
  · exact returned.andThen freeBay_signals

theorem State.testGrant_signals {was : State} {es : List Ending} {b : BayId} {lifting : Bool} :
    SignalsKept s (s.testGrant was es b lifting) := by
  unfold testGrant
  split
  · exact .keep
  · split
    · exact .keep
    · exact .ite (fun _ => closeGrant_signals) fun _ =>
        .ite (fun _ => runCapReached_signals) fun _ => .of_touches setGrant_touches

theorem State.closeReturning_signals {was : State} {b : BayId} : SignalsKept s (s.closeReturning was b) := by
  unfold closeReturning
  split
  · exact .keep
  · exact (SignalsKept.of_touches returnPortion_touches).andThen freeBay_signals

theorem State.takeService_signals {was : State} {b : BayId} {v : Service} : SignalsKept s (s.takeService was b v) := by
  unfold takeService
  split
  · split
    · exact reportAll_signals.andThen closeReturning_signals
    · exact arbitrateAt_signals
    · exact .keep
  · exact .keep

theorem State.takeServices_signals {was : State} {xs : List (BayId × Service)} : SignalsKept s (s.takeServices was xs) :=
  .each (fun _ _ => takeService_signals) _ _

theorem State.takeReports_signals {was : State} : ∀ {rounds n : Nat} {s : State},
    SignalsKept s (State.takeReports was rounds n s)
  | 0, _, _ => .keep
  | _ + 1, _, _ => takeServices_signals.andThen takeReports_signals

theorem State.judgeReports_signals {old : State} : SignalsKept s (s.judgeReports old) :=
  endPortions_signals.andThen takeReports_signals

/-! ## Boundaries and the Roster -/

theorem State.swapBanks_signals : SignalsKept s s.swapBanks :=
  ((SignalsKept.of_touches withPlans_touches).andThen raiseStation_signals).andThen reportAll_signals

theorem State.examineBank_signals : SignalsKept s s.examineBank := .ite (fun _ => swapBanks_signals) fun _ => .keep

theorem State.boundary_signals {n : Nat} : SignalsKept s (s.boundary n) :=
  ((((SignalsKept.ite (fun _ => examineBank_signals) fun _ => .keep).andThen (.of_touches enterPhase_touches)).andThen
    (.of_touches replenish_touches)).andThen arbitrateAll_signals).andThen reportAll_signals

theorem State.rosterCall_signals {p : PumpId} : SignalsKept s (s.rosterCall p) :=
  .ite (fun _ => callPump_signals) fun _ => .keep

theorem State.requestStart_signals {p : PumpId} : SignalsKept s (s.requestStart p) := by
  have outstanding {t : State} {x : Option PumpId} : SignalsKept t (t.setOutstanding x) := .of_touches setOutstanding_touches
  exact .ite
    (fun _ => (((outstanding.andThen (moveTo_signals (by decide))).andThen (.of_touches giveNumber_touches)).andThen
      outstanding).andThen afterStarting_signals)
    fun _ => outstanding.andThen outstanding

theorem State.considerStart_signals {xs : List PumpId} : SignalsKept s (s.considerStart xs) := by
  unfold considerStart
  split
  · split
    · exact requestStart_signals
    · exact .keep
  · exact .keep

theorem State.callPumps_signals {old : State} {all : Bool} : SignalsKept s (s.callPumps old all) :=
  .each (fun _ _ => rosterCall_signals) _ _

theorem State.holdCeiling_signals : SignalsKept s s.holdCeiling := .of_touches holdCeiling_touches

theorem State.settleRoster_signals {old : State} {x : Settling} : SignalsKept s (s.settleRoster old x) := by
  have called : SignalsKept s (s.holdCeiling.callPumps old x.callAll) := holdCeiling_signals.andThen callPumps_signals
  exact ((called.andThen (.ite (fun _ => considerStart_signals) fun _ => .keep)).andThen takeReports_signals).andThen
    (.of_touches withReports_touches)

/-- Outside CHECKING the whole settling takes nothing back. -/
theorem State.settle_signals {old : State} {x : Settling} (h : s.loader.station ≠ .checking) :
    SignalsKept s (s.settle old x) := by
  have station : (s.judgeReports old).loader = s.loader := judgeReports_touches.same .loader
  have stays : (s.judgeReports old).leaveChecking = s.judgeReports old := by simp [leaveChecking, station, h]
  unfold settle
  rw [stays]
  exact judgeReports_signals.andThen settleRoster_signals

/-! ## Samples -/

theorem State.announce_signals : SignalsKept s s.announce where
  settings := rfl
  running h := h
  river _ h := h
  ports _ := .refl _
  jammed _ h := h
  timers _ := rfl
  faults _ _ h := .inl h

theorem State.meterSample_signals : SignalsKept s s.meterSample := .of_touches meterSample_touches

theorem State.exhaustionBegins_signals {was : State} : SignalsKept s (s.exhaustionBegins was) :=
  (((SignalsKept.of_touches withAccounts_touches).andThen raiseStation_signals).andThen reportAll_signals).andThen
    (.each (fun _ _ => closeReturning_signals) _ _)

theorem State.exhaustionEnds_signals : SignalsKept s s.exhaustionEnds :=
  ((SignalsKept.of_touches withAccounts_touches).andThen reportAll_signals).andThen arbitrateAll_signals

theorem State.evaluateExhausted_signals {was : State} : SignalsKept s (s.evaluateExhausted was) :=
  .ite (fun _ => exhaustionBegins_signals) fun _ => .ite (fun _ => exhaustionEnds_signals) fun _ => .keep

theorem State.testGrants_signals {was : State} {es : List Ending} {f : BayId → Bool} :
    SignalsKept s (s.testGrants was es f) :=
  .each (fun _ _ => testGrant_signals) _ _

/-- A sample of RUNNING takes nothing back after its charges. -/
theorem State.runningSample_signals {old : State} {f : BayId → Bool} (h : s.isRunning) :
    SignalsKept s (s.runningSample old f) := by
  unfold runningSample
  dsimp only
  have settled {t u : State} {x : Settling} (kept : SignalsKept s t) : SignalsKept s (t.settle u x) :=
    kept.andThen (settle_signals (by rw [kept.running h]; decide))
  refine settled (SignalsKept.andThen ?_ (.each (fun _ _ => stopPump_signals) _ _))
  refine SignalsKept.andThen ?_ testGrants_signals
  refine SignalsKept.andThen ?_ (.of_touches withReports_touches)
  refine SignalsKept.andThen ?_ takeReports_signals
  refine SignalsKept.andThen ?_ takeServices_signals
  exact (endPortions_signals.andThen evaluateExhausted_signals).andThen announce_signals

end Sys2Proof.Machine
end

section
/-! SUPPORT. The phase boundary and the entry to RUNNING, signal by signal (R12, R13, R179). -/

-- One proof after another, as in Laws: in parallel, the threads of so many outgrow the memory the check allows.
set_option Elab.async false

namespace Sys2Proof.Machine

open Sys2Proof Sys2Proof.Safety

variable {s t : State}

/-! ## The boundary (R13) -/

/-- A replenish is that of R54 and R55. -/
theorem AccountTable.replenish_spec (a : AccountTable) (e : PhaseEntry) : Replenished e a (a.replenish e) := by
  refine ⟨fun d => ?_, rfl, rfl⟩
  simp [replenish, raiseCredit, shareOf, weightSum, Config.creditBound]

theorem State.governing_congr (plans : t.plans = s.plans) (sequencer : t.sequencer = s.sequencer) :
    t.governing = s.governing := by
  simp only [governing, governingPhase, activePlan, plans, sequencer]

/-- The examination of R8 and R10 leaves the banks as `examined` says. -/
theorem State.examineBank_plans : s.examineBank.plans = examined s := by
  have swap : s.swapBanks.plans = swapped s.plans :=
    (OnlyTouches.andThen raiseStation_touches reportAll_touches (ds := [.ports, .river])).same .plans
  unfold examineBank examined
  split
  · exact swap
  · rfl

/-- The state of a boundary as its phase has been entered and its accounts replenished. -/
def State.phaseEntered (s : State) (n : Nat) : State := ((if n = 0 then s.examineBank else s).enterPhase n).replenish

theorem State.phaseEntered_plans (n : Nat) : (s.phaseEntered n).plans = (if n = 0 then s.examineBank else s).plans := rfl

/-- After that a boundary is the arbitrations and PHASE_CHANGE (R13). -/
theorem State.boundary_after_entry {n : Nat} : OnlyTouches grantParts (s.phaseEntered n) (s.boundary n) :=
  arbitrateAll_touches.andThen reportAll_touches

theorem State.phaseEntered_signals {n : Nat} : SignalsKept s (s.phaseEntered n) :=
  ((SignalsKept.ite (fun _ => examineBank_signals) fun _ => .keep).andThen (.of_touches enterPhase_touches)).andThen
    (.of_touches replenish_touches)

theorem State.boundary_sequencer (n : Nat) :
    (s.boundary n).sequencer =
      { s.sequencer with
        phase := n, elapsed := 0, cycle := if n = 0 then s.sequencer.cycle + 1 else s.sequencer.cycle } := by
  have examined : (if n = 0 then s.examineBank else s).sequencer = s.sequencer :=
    (OnlyTouches.ite (fun _ => examineBank_touches) fun _ => .keep).same .sequencer
  rw [boundary_after_entry.same .sequencer]
  simp [phaseEntered, replenish, enterPhase, examined]

theorem State.boundary_plans : (s.boundary 0).plans = examined s := by
  rw [boundary_after_entry.same .plans, phaseEntered_plans, if_pos rfl, examineBank_plans]

/-- A boundary replenishes the accounts from the entry that governs the new phase (R54). -/
theorem State.boundary_accounts (n : Nat) : (s.boundary n).accounts = s.accounts.replenish (s.boundary n).governing := by
  have examined : (if n = 0 then s.examineBank else s).accounts = s.accounts :=
    (OnlyTouches.ite (fun _ => examineBank_touches) fun _ => .keep).same .accounts
  have governing : (s.boundary n).governing = ((if n = 0 then s.examineBank else s).enterPhase n).governing :=
    governing_congr (boundary_after_entry.same .plans) (boundary_after_entry.same .sequencer)
  rw [boundary_after_entry.same .accounts, governing, ← examined]
  rfl

/-- PHASE_CHANGE is taken at every boundary of RUNNING (R13). -/
theorem State.boundary_phaseChange {n : Nat} (h : s.isRunning) : EventTakenByAll .phaseChange s (s.boundary n) := by
  have kept : SignalsKept s (s.phaseEntered n).arbitrateAll := phaseEntered_signals.andThen arbitrateAll_signals
  exact fun d => (reportAll_taken (kept.running h) d).since kept.toFlagsKept

/-- PLAN_ADOPTED is raised and taken where a boundary of RUNNING swaps the banks (R7). -/
theorem State.boundary_adoption (h : s.isRunning) : AdoptionSignalled s (s.boundary 0) := by
  intro changed
  have rest : SignalsKept s.examineBank (s.boundary 0) :=
    (((SignalsKept.of_touches enterPhase_touches).andThen (.of_touches replenish_touches)).andThen arbitrateAll_signals).andThen
      reportAll_signals
  have swap : s.plans.adoption = .auto ∧ s.stagedPlan.isSome = true := by
    by_contra kept
    rw [boundary_plans, examined, if_neg kept] at changed
    exact changed rfl
  have banks (x : PlanStore) : SignalsKept s (s.withPlans x) := .of_touches withPlans_touches
  have adopted : Told .planAdopted .planAdopted s s.examineBank := by
    rw [examineBank, if_pos swap]
    exact (raised_told ((banks _).running h)).since (banks _).toFlagsKept
  exact adopted.stays rest.toFlagsKept

/-! ## What the entry to RUNNING raises (R179) -/

/-- GAUGE_FAILED, when a gauge is FAILED (R32). -/
def State.tellGauges (s : State) : State :=
  if [(0 : GaugeId), 1, 2, 3].any fun g => s.gauges.records[g].condition == .failed then s.raiseStation .gaugeFailed else s

/-- HEAD_BLIND, when the condition stands (R36). -/
def State.tellBlind (s : State) : State := if s.gauges.headBlind then s.raiseHeadBlind else s

/-- PUMP_FAULT, when a pump is in FAULT (R133). -/
def State.tellFaults (s : State) : State :=
  if allPumps.any fun p => s.pumps[p].state == .fault then s.raisePumpFault else s

/-- The JAMMED gates. -/
def State.jammedGates (s : State) : List IntakeId := allIntakes.filter fun i => s.gates[i].state == .jammed

/-- The reports of GATE_JAMMED to the owners of some gates (R155). -/
def State.reportJams (s : State) (jammed : List IntakeId) : State :=
  s.each allDistricts fun t d => if jammed.any fun i => t.settings.owns i d then t.reportTo d .gateJammed else t

/-- GATE_JAMMED, when a gate is JAMMED (R155). -/
def State.tellJams (s : State) : State :=
  (if s.jammedGates.isEmpty then s else s.raiseStation .gateJammed).reportJams s.jammedGates

/-- BAY_UNSERVED, when a bay is out of service (R86). -/
def State.tellUnserved (s : State) : State :=
  if allBays.any fun b => decide (s.service b = .outOfService) then s.reportAll .bayUnserved else s

/-- An enabled port with an interval starts its always-report timer (R173). -/
def Port.startTimer (q : Port) (enabled : Bool) : Port :=
  if enabled = true ∧ 0 < q.interval then { q with timer := some q.interval } else q

/-- Every always-report timer starts (R173). -/
def State.startReportTimers (s : State) : State :=
  s.each allDistricts fun t d =>
    if t.settings.districts[d].enabled = true ∧ 0 < t.ports[d].interval then
      t.setPort d { t.ports[d] with timer := some t.ports[d].interval }
    else t

/-- All that has gathered before RUNNING, in the order in which it is raised. -/
def State.tellGathered (s : State) : State := s.tellGauges.tellBlind.tellFaults.tellJams.tellUnserved

/-- The state of the entry to RUNNING after its boundary. -/
def State.startBoundary (s : State) : State := (s.setStation .running).boundary 0

theorem State.enterRunning_eq : s.enterRunning = s.startBoundary.tellGathered.startReportTimers := by
  unfold enterRunning
  extract_lets a b c d jammed e f g
  rw [show s.startBoundary = a from rfl]
  clear_value a
  rw [tellGathered, show a.tellGauges = b from rfl]
  clear_value b
  rw [show b.tellBlind = c from rfl]
  clear_value c
  rw [show c.tellFaults = d from rfl]
  clear_value d
  rw [show d.tellJams = f from rfl]
  clear_value f
  rfl

/-- What each of these raises moves the ports and the River Port alone, and takes nothing back. -/
theorem State.tellGauges_signals : SignalsKept s s.tellGauges := .ite (fun _ => raiseStation_signals) fun _ => .keep

theorem State.tellBlind_signals : SignalsKept s s.tellBlind := .ite (fun _ => raiseHeadBlind_signals) fun _ => .keep

theorem State.tellFaults_signals : SignalsKept s s.tellFaults := .ite (fun _ => raisePumpFault_signals) fun _ => .keep

theorem State.reportJams_signals {jammed : List IntakeId} : SignalsKept s (s.reportJams jammed) :=
  .each (fun _ _ => .ite (fun _ => reportTo_signals) fun _ => .keep) _ _

theorem State.tellJams_signals : SignalsKept s s.tellJams :=
  (SignalsKept.ite (fun _ => .keep) fun _ => raiseStation_signals).andThen reportJams_signals

theorem State.tellUnserved_signals : SignalsKept s s.tellUnserved := .ite (fun _ => reportAll_signals) fun _ => .keep

theorem State.tellGauges_touches : OnlyTouches [.ports, .river] s s.tellGauges :=
  .ite (fun _ => raiseStation_touches.mono) fun _ => .keep

theorem State.tellBlind_touches : OnlyTouches [.ports, .river] s s.tellBlind :=
  .ite (fun _ => raiseHeadBlind_touches) fun _ => .keep

theorem State.tellFaults_touches : OnlyTouches [.ports, .river] s s.tellFaults :=
  .ite (fun _ => raisePumpFault_touches) fun _ => .keep

theorem State.tellJams_touches : OnlyTouches [.ports, .river] s s.tellJams :=
  OnlyTouches.andThen (.ite (fun _ => .keep) fun _ => raiseStation_touches)
    (.each (fun _ _ => .ite (fun _ => reportTo_touches) fun _ => .keep) _ _) (bs := [.river]) (cs := [.ports])

theorem State.tellUnserved_touches : OnlyTouches [.ports, .river] s s.tellUnserved :=
  .ite (fun _ => reportAll_touches.mono) fun _ => .keep

theorem State.tellGathered_touches : OnlyTouches [.ports, .river] s s.tellGathered :=
  (((tellGauges_touches.andThen tellBlind_touches (ds := [.ports, .river])).andThen tellFaults_touches
    (ds := [.ports, .river])).andThen tellJams_touches (ds := [.ports, .river])).andThen tellUnserved_touches

theorem State.tellGathered_signals : SignalsKept s s.tellGathered :=
  (((tellGauges_signals.andThen tellBlind_signals).andThen tellFaults_signals).andThen tellJams_signals).andThen
    tellUnserved_signals

theorem State.service_congr {b : BayId} (gauges : t.gauges = s.gauges) (pumps : t.pumps = s.pumps) :
    t.service b = s.service b := by
  unfold service
  rw [gauges, pumps]

theorem mem_allGauges (g : GaugeId) : g ∈ [(0 : GaugeId), 1, 2, 3] := by revert g; decide

section
variable (running : s.isRunning)
include running

theorem State.tellGathered_gauges (h : ∃ g : GaugeId, s.gauges.records[g].condition = .failed) :
    FlagUp .gaugeFailed s.tellGathered := by
  have failed : ([(0 : GaugeId), 1, 2, 3].any fun g => s.gauges.records[g].condition == .failed) = true := by
    obtain ⟨g, failed⟩ := h
    exact List.any_eq_true.2 ⟨g, mem_allGauges g, by simpa using failed⟩
  have up : FlagUp .gaugeFailed s.tellGauges := by
    rw [tellGauges, if_pos failed]; exact raiseStation_up running
  exact (((tellBlind_signals.andThen tellFaults_signals).andThen tellJams_signals).andThen tellUnserved_signals).river _ up

theorem State.tellGathered_blind (h : s.gauges.headBlind = true) : Told .headBlind .headBlind s s.tellGathered := by
  have before : SignalsKept s s.tellGauges := tellGauges_signals
  have blind : s.tellGauges.gauges.headBlind = true := by rw [tellGauges_touches.same .gauges]; exact h
  have told : Told .headBlind .headBlind s.tellGauges s.tellGauges.tellBlind := by
    rw [tellBlind, if_pos blind]; exact raised_told (before.running running)
  exact (told.since before.toFlagsKept).stays
    ((tellFaults_signals.andThen tellJams_signals).andThen tellUnserved_signals).toFlagsKept

theorem State.tellGathered_faults (h : ∃ p : PumpId, s.pumps[p].state = .fault) :
    Told .pumpFault .pumpFault s s.tellGathered := by
  have before : SignalsKept s s.tellGauges.tellBlind := tellGauges_signals.andThen tellBlind_signals
  have pumps : s.tellGauges.tellBlind.pumps = s.pumps :=
    (tellGauges_touches.andThen tellBlind_touches (ds := [.ports, .river])).same .pumps
  have faulted : (allPumps.any fun p => s.tellGauges.tellBlind.pumps[p].state == .fault) = true := by
    obtain ⟨p, fault⟩ := h
    exact List.any_eq_true.2 ⟨p, mem_allPumps p, by rw [pumps]; simpa using fault⟩
  have told : Told .pumpFault .pumpFault s.tellGauges.tellBlind s.tellGauges.tellBlind.tellFaults := by
    rw [tellFaults, if_pos faulted]; exact raised_told (before.running running)
  exact (told.since before.toFlagsKept).stays (tellJams_signals.andThen tellUnserved_signals).toFlagsKept

/-- The owners of a gate among those reported have taken GATE_JAMMED (R155). -/
theorem State.reportJams_taken {jammed : List IntakeId} {i : IntakeId} {d : DistrictId} (member : i ∈ jammed)
    (owner : s.settings.owns i d = true) : EventTaken .gateJammed d s (s.reportJams jammed) := by
  refine each_taken (s := s)
    (act := fun t d => if jammed.any fun i => t.settings.owns i d then t.reportTo d .gateJammed else t)
    (fun _ _ => .ite (fun _ => reportTo_signals) fun _ => .keep) (fun t since live => ?_) SignalsKept.keep.toFlagsKept running
    (mem_allDistricts d)
  have owned : (jammed.any fun i => t.settings.owns i d) = true :=
    List.any_eq_true.2 ⟨i, member, by rw [since.settings]; exact owner⟩
  rw [if_pos owned]
  exact reportTo_taken live

theorem State.tellJams_told {i : IntakeId} (h : s.gates[i].state = .jammed) :
    FlagUp .gateJammed s.tellJams
      ∧ ∀ d : DistrictId, s.settings.owns i d = true → EventTaken .gateJammed d s s.tellJams := by
  have member : i ∈ s.jammedGates := List.mem_filter.2 ⟨mem_allIntakes i, by simpa using h⟩
  have some : ¬s.jammedGates.isEmpty = true := fun empty => by simp [List.isEmpty_iff.1 empty] at member
  have raised : SignalsKept s (s.raiseStation .gateJammed) := raiseStation_signals
  rw [tellJams, if_neg some]
  refine ⟨reportJams_signals.river _ (raiseStation_up running), fun d owner => ?_⟩
  exact (reportJams_taken (raised.running running) member (by rw [raised.settings]; exact owner)).since raised.toFlagsKept

theorem State.tellGathered_jams {i : IntakeId} (h : s.gates[i].state = .jammed) :
    FlagUp .gateJammed s.tellGathered
      ∧ ∀ d : DistrictId, s.settings.owns i d = true → EventTaken .gateJammed d s s.tellGathered := by
  have before : SignalsKept s s.tellGauges.tellBlind.tellFaults :=
    (tellGauges_signals.andThen tellBlind_signals).andThen tellFaults_signals
  obtain ⟨up, taken⟩ := tellJams_told (before.running running) (before.jammed i h)
  refine ⟨tellUnserved_signals.river _ up, fun d owner => ?_⟩
  exact ((taken d (by rw [before.settings]; exact owner)).since before.toFlagsKept).stays tellUnserved_signals.toFlagsKept

theorem State.tellGathered_unserved {b : BayId} (h : s.service b = .outOfService) :
    EventTakenByAll .bayUnserved s s.tellGathered := by
  have before : SignalsKept s s.tellGauges.tellBlind.tellFaults.tellJams :=
    ((tellGauges_signals.andThen tellBlind_signals).andThen tellFaults_signals).andThen tellJams_signals
  have touched : OnlyTouches [.ports, .river] s s.tellGauges.tellBlind.tellFaults.tellJams :=
    ((tellGauges_touches.andThen tellBlind_touches (ds := [.ports, .river])).andThen tellFaults_touches
      (ds := [.ports, .river])).andThen tellJams_touches
  have unserved : (allBays.any fun b => decide (s.tellGauges.tellBlind.tellFaults.tellJams.service b = .outOfService)) = true :=
    List.any_eq_true.2 ⟨b, mem_allBays b, by
      rw [service_congr (touched.same .gauges) (touched.same .pumps)]; simpa using h⟩
  rw [tellGathered, tellUnserved, if_pos unserved]
  exact fun d => (reportAll_taken (before.running running) d).since before.toFlagsKept

end

/-! ## The always-report timers at the entry to RUNNING (R173) -/

theorem Port.startTimer_twice (q : Port) (enabled : Bool) : (q.startTimer enabled).startTimer enabled = q.startTimer enabled := by
  unfold startTimer
  split
  · simp_all
  · simp_all

/-- The start of the timers writes each port of the list by itself. -/
theorem State.each_startTimer {d : DistrictId} : ∀ (xs : List DistrictId) (s : State),
    (s.each xs fun t d =>
      if t.settings.districts[d].enabled = true ∧ 0 < t.ports[d].interval then
        t.setPort d { t.ports[d] with timer := some t.ports[d].interval }
      else t).ports[d] =
      if d ∈ xs then s.ports[d].startTimer s.settings.districts[d].enabled else s.ports[d]
  | [], s => by simp [each]
  | x :: xs, s => by
    have first : (if s.settings.districts[x].enabled = true ∧ 0 < s.ports[x].interval then
        s.setPort x { s.ports[x] with timer := some s.ports[x].interval } else s).ports[d] =
        if d = x then s.ports[d].startTimer s.settings.districts[d].enabled else s.ports[d] := by
      by_cases same : d = x
      · subst same
        rw [if_pos rfl, Port.startTimer]
        split
        · exact setPort_self
        · rfl
      · rw [if_neg same]
        split
        · exact setPort_others d same
        · rfl
    have settings : (if s.settings.districts[x].enabled = true ∧ 0 < s.ports[x].interval then
        s.setPort x { s.ports[x] with timer := some s.ports[x].interval } else s).settings = s.settings :=
      (OnlyTouches.ite (fun _ => setPort_touches) fun _ => .keep).same .settings
    refine (each_startTimer xs _).trans ?_
    rw [first, settings]
    by_cases same : d = x
    · simp [same, Port.startTimer_twice]
    · simp [same]

theorem State.startReportTimers_ports (d : DistrictId) :
    s.startReportTimers.ports[d] = s.ports[d].startTimer s.settings.districts[d].enabled :=
  (each_startTimer allDistricts s).trans (if_pos (mem_allDistricts d))

theorem State.startReportTimers_touches : OnlyTouches [.ports] s s.startReportTimers :=
  .each (fun _ _ => .ite (fun _ => setPort_touches) fun _ => .keep) _ _

theorem Port.startTimer_kept (q : Port) (enabled : Bool) : PortKept q (q.startTimer enabled) := by
  unfold startTimer
  split
  · exact .refl _
  · exact .refl _

theorem State.startReportTimers_flags : FlagsKept s s.startReportTimers :=
  .of_ports startReportTimers_touches fun d => by rw [startReportTimers_ports]; exact Port.startTimer_kept _ _

/-! ## The entry to RUNNING -/

theorem State.enterRunning_after_boundary : OnlyTouches [.ports, .river] s.startBoundary s.enterRunning := by
  rw [enterRunning_eq]
  exact tellGathered_touches.andThen startReportTimers_touches

theorem State.startBoundary_touches : OnlyTouches startParts s s.startBoundary := by
  unfold startBoundary
  exact setStation_touches.andThen boundary_touches

theorem State.setStation_running_signals : SignalsKept s (s.setStation .running) where
  settings := rfl
  running _ := rfl
  river _ h := h
  ports _ := .refl _
  jammed _ h := h
  timers _ := rfl
  faults _ _ h := .inl h

theorem State.startBoundary_signals : SignalsKept s s.startBoundary := by
  unfold startBoundary
  exact setStation_running_signals.andThen boundary_signals

theorem State.startBoundary_running : s.startBoundary.isRunning := by
  unfold startBoundary
  exact (boundary_signals (s := s.setStation .running) (n := 0)).running rfl

theorem State.startBoundary_tells_flags : FlagsKept s.startBoundary s.enterRunning := by
  rw [enterRunning_eq]
  exact tellGathered_signals.toFlagsKept.andThen startReportTimers_flags

theorem State.enterRunning_flags : FlagsKept s s.enterRunning :=
  startBoundary_signals.toFlagsKept.andThen startBoundary_tells_flags

theorem State.enterRunning_loader : s.enterRunning.loader = { s.loader with station := .running } := by
  rw [enterRunning_after_boundary.same .loader, startBoundary, boundary_touches.same .loader]
  rfl

theorem State.enterRunning_plans : s.enterRunning.plans = examined s := by
  rw [enterRunning_after_boundary.same .plans, startBoundary, boundary_plans]
  rfl

theorem State.enterRunning_sequencer :
    s.enterRunning.sequencer = { s.sequencer with phase := 0, elapsed := 0, cycle := s.sequencer.cycle + 1 } := by
  rw [enterRunning_after_boundary.same .sequencer, startBoundary, boundary_sequencer]
  rfl

theorem State.enterRunning_accounts : s.enterRunning.accounts = s.accounts.replenish s.enterRunning.governing := by
  rw [enterRunning_after_boundary.same .accounts,
    governing_congr (enterRunning_after_boundary.same .plans) (enterRunning_after_boundary.same .sequencer), startBoundary,
    boundary_accounts]
  rfl

theorem State.enterRunning_gauges : s.enterRunning.gauges = s.gauges := enterRunning_touches.same .gauges

theorem State.enterRunning_pumps : s.enterRunning.pumps = s.pumps := enterRunning_touches.same .pumps

theorem State.enterRunning_adoption : AdoptionSignalled s s.enterRunning := by
  intro changed
  have boundary : AdoptionSignalled (s.setStation .running) s.startBoundary := boundary_adoption rfl
  have told := boundary (by rw [← enterRunning_after_boundary.same .plans]; exact changed)
  exact (Told.since setStation_running_signals.toFlagsKept told).stays startBoundary_tells_flags

theorem State.enterRunning_phaseChange : EventTakenByAll .phaseChange s s.enterRunning := fun d =>
  ((boundary_phaseChange (s := s.setStation .running) rfl d).since setStation_running_signals.toFlagsKept).stays
    startBoundary_tells_flags

theorem State.enterRunning_gaugeFailed (h : ∃ g : GaugeId, s.gauges.records[g].condition = .failed) :
    FlagUp .gaugeFailed s.enterRunning := by
  rw [enterRunning_eq]
  exact startReportTimers_flags.river _ (tellGathered_gauges startBoundary_running (by
    rw [startBoundary_touches.same .gauges]; exact h))

theorem State.enterRunning_headBlind (h : s.gauges.headBlind = true) : Told .headBlind .headBlind s s.enterRunning := by
  rw [enterRunning_eq]
  exact ((tellGathered_blind startBoundary_running (by rw [startBoundary_touches.same .gauges]; exact h)).since
    startBoundary_signals.toFlagsKept).stays startReportTimers_flags

theorem State.enterRunning_pumpFault (h : ∃ p : PumpId, s.pumps[p].state = .fault) :
    Told .pumpFault .pumpFault s s.enterRunning := by
  rw [enterRunning_eq]
  exact ((tellGathered_faults startBoundary_running (by rw [startBoundary_touches.same .pumps]; exact h)).since
    startBoundary_signals.toFlagsKept).stays startReportTimers_flags

theorem State.enterRunning_gateJammed {i : IntakeId} (h : s.gates[i].state = .jammed) :
    FlagUp .gateJammed s.enterRunning
      ∧ ∀ d : DistrictId, s.settings.owns i d = true → EventTaken .gateJammed d s s.enterRunning := by
  rw [enterRunning_eq]
  obtain ⟨up, taken⟩ := tellGathered_jams startBoundary_running (startBoundary_signals.jammed i h)
  refine ⟨startReportTimers_flags.river _ up, fun d owner => ?_⟩
  exact ((taken d (by rw [startBoundary_signals.settings]; exact owner)).since startBoundary_signals.toFlagsKept).stays
    startReportTimers_flags

theorem State.enterRunning_bayUnserved {b : BayId} (h : s.service b = .outOfService) :
    EventTakenByAll .bayUnserved s s.enterRunning := by
  have unserved : s.startBoundary.service b = .outOfService := by
    rw [service_congr (startBoundary_touches.same .gauges) (startBoundary_touches.same .pumps)]; exact h
  rw [enterRunning_eq]
  exact fun d => ((tellGathered_unserved startBoundary_running unserved d).since startBoundary_signals.toFlagsKept).stays
    startReportTimers_flags

/-- The always-report timers run from the entry to RUNNING (R173). -/
theorem State.enterRunning_timer {d : DistrictId} (enabled : s.settings.districts[d].enabled = true)
    (interval : 0 < s.ports[d].interval) : s.enterRunning.ports[d].timer = some s.ports[d].interval := by
  have kept : FlagsKept s s.startBoundary.tellGathered := (startBoundary_signals.andThen tellGathered_signals).toFlagsKept
  have same : s.startBoundary.tellGathered.ports[d].interval = s.ports[d].interval := (kept.ports d).2.1
  have on : s.startBoundary.tellGathered.settings.districts[d].enabled = true := by rw [kept.settings]; exact enabled
  rw [enterRunning_eq, startReportTimers_ports, on, Port.startTimer, if_pos ⟨rfl, by rw [same]; exact interval⟩, same]

end Sys2Proof.Machine
end

section
/-! SUPPORT. A whole sample: what it finds, what it announces in CHECKING, and what it raises (R23 to R46, R126, R179). -/

-- One proof after another, as in Laws: in parallel, the threads of so many outgrow the memory the check allows.
set_option Elab.async false

namespace Sys2Proof.Machine

open Sys2Proof Sys2Proof.Safety

variable {s t : State}

/-! ## The arbiters before RUNNING -/

/-- A change that does nothing to any of a list does nothing. -/
theorem State.each_idle {α : Type} {xs : List α} {f : State → α → State} (h : ∀ x ∈ xs, f s x = s) : s.each xs f = s := by
  induction xs with
  | nil => rfl
  | cons x xs ih =>
    have rest := ih fun y hy => h y (List.mem_cons_of_mem _ hy)
    show (f s x).each xs f = s
    rw [h x List.mem_cons_self, rest]

theorem State.endPortions_nil : s.endPortions [] = s :=
  each_idle fun d _ => by simp [each]

/-- Before RUNNING the arbiters take no report (R86). -/
theorem State.takeReports_idle {was : State} (h : ¬s.isRunning) : ∀ {rounds n : Nat}, State.takeReports was rounds n s = s
  | 0, _ => rfl
  | rounds + 1, n => by
    have idle : s.takeServices was ((s.reports.drop n).filterMap PumpReport.change) = s := each_idle fun _ _ => if_neg h
    rw [takeReports, idle, takeReports_idle h]

theorem State.judgeReports_idle {old : State} (h : ¬s.isRunning) : s.judgeReports old = s := by
  have none : s.lostBays old = [] := by simp [lostBays, h]
  rw [judgeReports, none, List.filterMap_nil, endPortions_nil, takeReports_idle h]

/-! ## The announcement -/

/-- The settling never takes back that a sample has been announced (R179). -/
theorem State.settle_sampled {old : State} {x : Settling} : (s.settle old x).loader.sampled = s.loader.sampled := by
  have judged : (s.judgeReports old).loader = s.loader := judgeReports_touches.same .loader
  have left (t : State) : t.leaveChecking.loader.sampled = t.loader.sampled := by
    unfold leaveChecking
    split
    · rw [enterRunning_loader]
    · rfl
  rw [settle, settleRoster_touches.same .loader, left, judged]

theorem State.runningSample_sampled {old : State} {f : BayId → Bool} : (s.runningSample old f).loader.sampled = true := by
  unfold runningSample
  extract_lets ended a b c stops d
  have stopped : d.loader = c.loader := (OnlyTouches.each (fun _ _ => stopPump_touches) stops c).same .loader
  have tested : c.loader = b.loader := testGrants_touches.same .loader
  have taken : b.loader = a.loader := (takeServices_touches.andThen takeReports_touches (ds := settled)).same .loader
  rw [settle_sampled, stopped, tested, taken]
  rfl

/-! ## The sample before it is announced -/

/-- The state with its readings and what the Meter makes of them. -/
def State.metered (s : State) (xs : Vector LoopInput 4) : State := (s.beginSample.readGauges xs).meterSample

section
variable (xs : Vector LoopInput 4)

theorem State.sample_running (h : s.isRunning) :
    s.sample xs = (s.metered xs).runningSample s fun b => (pumpsOf b).any fun p => s.lifts p := if_pos h

theorem State.sample_checking (h : ¬s.isRunning) : s.sample xs = (s.metered xs).announce.settle s {} := if_neg h

theorem State.metered_touches :
    OnlyTouches [.second, .gauges, .meter, .accounts, .orders, .arbiters, .roster, .pumps, .gates, .ports, .river] s
      (s.metered xs) :=
  (beginSample_touches.andThen readGauges_touches
    (ds := [.second, .gauges, .meter, .roster, .pumps, .gates, .ports, .river])).andThen meterSample_touches

theorem State.beginSample_flags : FlagsKept s s.beginSample where
  settings := beginSample_settings
  running h := by rw [isRunning, beginSample_touches.same .loader]; exact h
  river f up := by rw [FlagUp, beginSample_touches.same .river]; exact up
  ports d := by
    simp only [beginSample, withMeter_ports, countTimers_port]
    exact ⟨rfl, rfl, fun _ h => h⟩
  jammed i jammed := by
    simp only [beginSample, withMeter_gates, countTimers_gate]
    exact jammed

theorem State.withLevel_signals : SignalsKept s (s.withReadings xs).withRiverLevel := by
  have records : SignalsKept s (s.withReadings xs) := .of_touches withGauges_touches
  exact records.andThen (.of_touches withGauges_touches)

theorem State.tellFailed_signals {old : State} : SignalsKept s (s.tellFailed old) :=
  .ite (fun _ => raiseStation_signals) fun _ => .keep

theorem State.readGauges_signals : SignalsKept s (s.readGauges xs) := by
  have told := (withLevel_signals (s := s) xs).andThen (tellFailed_signals (old := s))
  rw [readGauges_eq]
  exact .ite (fun _ => told.andThen raiseHeadBlind_signals) fun _ => told

theorem State.metered_flags : FlagsKept s (s.metered xs) := by
  unfold metered
  exact (beginSample_flags.andThen (readGauges_signals xs).toFlagsKept).andThen meterSample_signals.toFlagsKept

theorem State.metered_pump_state (p : PumpId) : (s.metered xs).pumps[p].state = s.pumps[p].state := by
  rw [metered, meterSample_touches.same .pumps, readGauges_pumps, beginSample_pump_state]

theorem State.takeVolumes_touches : OnlyTouches [.meter] s s.takeFlows.takeVolumes :=
  withMeter_touches.andThen withMeter_touches

/-- With every bay FREE nothing is charged (R47). -/
theorem State.meterSample_accounts (h : ∀ b : BayId, s.grantOf b = none) : s.meterSample.accounts = s.accounts := by
  have uncharged : s.meterSample = s.takeFlows.takeVolumes := each_idle fun b _ => by
    have free : s.takeFlows.takeVolumes.grantOf b = none := by
      rw [grantOf, takeVolumes_touches.same .arbiters]; exact h b
    rw [chargeBay, free]
  rw [uncharged, takeVolumes_touches.same .accounts]

theorem State.metered_accounts (h : ∀ b : BayId, s.grantOf b = none) : (s.metered xs).accounts = s.accounts := by
  rw [metered, meterSample_accounts, readGauges_touches.same .accounts, beginSample_touches.same .accounts]
  intro b
  rw [grantOf, readGauges_touches.same .arbiters, beginSample_touches.same .arbiters]
  exact h b

/-! ## What the readings raise (R30, R36) -/

/-- GAUGE_FAILED is up after a reading of RUNNING at which a gauge fails (R30). -/
theorem State.readGauges_gaugeFailed (h : s.isRunning) {g : GaugeId} (before : s.gauges.records[g].condition ≠ .failed)
    (after : (s.readGauges xs).gauges.records[g].condition = .failed) : FlagUp .gaugeFailed (s.readGauges xs) := by
  have level := withLevel_signals (s := s) xs
  have records : (s.withReadings xs).withRiverLevel.gauges = (s.readGauges xs).gauges := (s.readGauges_gauges xs).symm
  have failed : ([(0 : GaugeId), 1, 2, 3].any fun g =>
      becameFailed s.gauges.records[g] (s.withReadings xs).withRiverLevel.gauges.records[g]) = true :=
    List.any_eq_true.2 ⟨g, mem_allGauges g, by
      rw [records]
      exact Bool.and_eq_true_iff.2 ⟨bne_iff_ne.2 before, beq_iff_eq.2 after⟩⟩
  have up : FlagUp .gaugeFailed ((s.withReadings xs).withRiverLevel.tellFailed s) := by
    rw [tellFailed, if_pos failed]
    exact raiseStation_up (level.running h)
  rw [readGauges_eq]
  split
  · exact raiseHeadBlind_signals.river _ up
  · exact up

/-- HEAD_BLIND is raised and taken at the reading of RUNNING that sets the condition (R36). -/
theorem State.readGauges_headBlind (h : s.isRunning) (before : s.gauges.headBlind = false)
    (after : (s.readGauges xs).gauges.headBlind = true) : Told .headBlind .headBlind s (s.readGauges xs) := by
  have told := (withLevel_signals (s := s) xs).andThen (tellFailed_signals (old := s))
  have blind : (s.withReadings xs).chooseRiver.1 = .none := by
    rw [readGauges_gauges] at after
    exact beq_iff_eq.1 after
  rw [readGauges_eq, if_pos ⟨before, blind⟩]
  exact (raised_told (told.running h)).since told.toFlagsKept

/-! ## What a sample of RUNNING raises -/

/-- From its readings on a sample of RUNNING takes no flag back. -/
theorem State.sample_flags_after_reading (h : s.isRunning) : FlagsKept (s.beginSample.readGauges xs) (s.sample xs) := by
  have running : (s.metered xs).isRunning := (metered_flags xs).running h
  rw [sample_running xs h]
  exact (meterSample_signals.andThen (runningSample_signals running)).toFlagsKept

theorem State.sample_gaugeFailed (h : s.isRunning) {g : GaugeId} (before : s.gauges.records[g].condition ≠ .failed)
    (after : (s.sample xs).gauges.records[g].condition = .failed) : FlagUp .gaugeFailed (s.sample xs) := by
  rw [sample_gauges] at after
  exact (sample_flags_after_reading xs h).river _
    (readGauges_gaugeFailed xs (beginSample_flags.running h) (by rw [beginSample_gauges]; exact before) after)

theorem State.sample_headBlind (h : s.isRunning) (before : s.gauges.headBlind = false)
    (after : (s.sample xs).gauges.headBlind = true) : Told .headBlind .headBlind s (s.sample xs) := by
  rw [sample_gauges] at after
  exact ((readGauges_headBlind xs (beginSample_flags.running h) (by rw [beginSample_gauges]; exact before) after).since
    beginSample_flags).stays (sample_flags_after_reading xs h)

/-! ## The river level and the heads of a sample -/

theorem State.sample_second : (s.sample xs).second = s.sampleSecond := by
  have after : (s.sample xs).second = (s.beginSample.readGauges xs).second := sample_touches_after_reading.same .second
  rw [after, readGauges_second]
  rfl

theorem State.sample_sampledAt : (s.sample xs).meter.sampledAt = some (s.sample xs).second := by
  have begun : s.beginSample.meter.sampledAt = some s.sampleSecond := rfl
  rw [sample_meter, meterSample_meter, sample_second, ← begun, ← readGauges_meter (s := s.beginSample) xs]
  rfl

theorem State.sample_stage : (s.sample xs).gauges.stage = s.gauges.stage := by
  rw [sample_gauges, readGauges_gauges, ← beginSample_gauges (s := s)]
  rfl

/-- The choice of the river level rests on the gauge records, the stage, the second and the freshness limit (R34, R35). -/
theorem State.chooseRiver_congr (records : t.gauges.records = s.gauges.records) (stage : t.gauges.stage = s.gauges.stage)
    (second : t.second = s.second) (settings : t.settings = s.settings) : t.chooseRiver = s.chooseRiver := by
  simp only [chooseRiver, stageFresh, records, stage, second, settings]

/-- The river level of a sample is the one that the state it leaves gives (R35). -/
theorem State.sample_chooseRiver : (s.beginSample.withReadings xs).chooseRiver = (s.sample xs).chooseRiver := by
  have gauges : (s.sample xs).gauges = (s.beginSample.withReadings xs).withRiverLevel.gauges := by
    rw [sample_gauges, readGauges_gauges]
  refine (chooseRiver_congr (by rw [gauges]; rfl) (by rw [gauges]; rfl) ?_ ?_).symm
  · rw [sample_second]; rfl
  · rw [sample_settings]; exact beginSample_settings.symm

theorem State.sample_source : (s.sample xs).gauges.source = (s.sample xs).chooseRiver.1 := by
  rw [← sample_chooseRiver, sample_gauges, readGauges_gauges]; rfl

theorem State.sample_river : (s.sample xs).gauges.river = (s.sample xs).chooseRiver.2 := by
  rw [← sample_chooseRiver, sample_gauges, readGauges_gauges]; rfl

theorem State.sample_blind_iff : (s.sample xs).gauges.headBlind = ((s.sample xs).gauges.source == .none) := by
  rw [sample_gauges, readGauges_gauges]; rfl

/-- A head is river level less bay level plus loss (R37). -/
theorem State.sample_heads (b : BayId) :
    (s.sample xs).gauges.heads[b] =
      headOf (s.sample xs).gauges.river ((s.sample xs).bayLevel b) s.settings.bays[b].loss := by
  unfold bayLevel
  rw [sample_gauges, readGauges_gauges, ← beginSample_settings (s := s)]
  simp [withRiverLevel, bayLevel, withReadings]

end

/-! ## A sample of CHECKING (R126, R179) -/

section
variable (xs : Vector LoopInput 4) (checking : s.loader.station = .checking)

/-- The state of a sample of CHECKING as it is announced. -/
def State.announced (s : State) (xs : Vector LoopInput 4) : State := (s.metered xs).announce

theorem State.announced_loader : (s.announced xs).loader = { s.loader with sampled := true } := by
  have metered : (s.metered xs).loader = s.loader := (metered_touches xs).same .loader
  rw [← metered]
  rfl

theorem State.announced_touches :
    OnlyTouches [.second, .gauges, .meter, .loader, .accounts, .orders, .arbiters, .roster, .pumps, .gates, .ports, .river] s
      (s.announced xs) := by
  unfold announced
  exact (metered_touches xs).andThen announce_touches

theorem State.announced_flags : FlagsKept s (s.announced xs) := by
  unfold announced
  exact (metered_flags xs).andThen announce_signals.toFlagsKept

theorem State.announced_pump_state (p : PumpId) : (s.announced xs).pumps[p].state = s.pumps[p].state := by
  rw [announced, announce_touches.same .pumps, metered_pump_state]

theorem State.announced_accounts (h : ∀ b : BayId, s.grantOf b = none) : (s.announced xs).accounts = s.accounts := by
  rw [announced, announce_touches.same .accounts, metered_accounts xs h]

include checking

/-- A sample of CHECKING is announced, the station goes to RUNNING if it can, and the Roster acts. -/
theorem State.sample_checking_eq :
    s.sample xs = (s.announced xs).leaveChecking.settleRoster s {} := by
  have still : ¬(s.announced xs).isRunning := by
    rw [isRunning, announced_loader]
    exact fun running => absurd (checking.symm.trans running) (by decide)
  rw [sample_checking xs fun running => absurd (checking.symm.trans running) (by decide), settle]
  exact congrArg (fun t : State => t.leaveChecking.settleRoster s {}) (judgeReports_idle still)

/-- With no pump OFFLINE the station goes to RUNNING (R179). -/
theorem State.sample_starts (ready : ∀ p : PumpId, s.pumps[p].state ≠ .offline) :
    s.sample xs = (s.announced xs).enterRunning.settleRoster s {} := by
  have all : (allPumps.all fun p => (s.announced xs).pumps[p].state != .offline) = true :=
    List.all_eq_true.2 fun p _ => by rw [announced_pump_state]; exact bne_iff_ne.2 (ready p)
  rw [sample_checking_eq xs checking, leaveChecking, if_pos]
  refine ⟨?_, ?_, all⟩
  · rw [announced_loader]; exact checking
  · rw [announced_loader]

/-- With a pump OFFLINE it stays in CHECKING (R126). -/
theorem State.sample_waits (offline : ∃ p : PumpId, s.pumps[p].state = .offline) :
    s.sample xs = (s.announced xs).settleRoster s {} := by
  obtain ⟨p, offline⟩ := offline
  rw [sample_checking_eq xs checking, leaveChecking, if_neg]
  rintro ⟨-, -, all⟩
  have : ((s.announced xs).pumps[p].state != .offline) = true := List.all_eq_true.1 all p (mem_allPumps p)
  rw [announced_pump_state] at this
  exact bne_iff_ne.1 this offline

end

theorem bayOf_pumpsOf (b : BayId) : ∀ p ∈ pumpsOf b, bayOf p = b := by revert b; decide

/-- A bay whose gauge is FAILED, or whose pumps are all in FAULT or HELD, is out of service (R85). -/
theorem State.service_lost {b : BayId}
    (h : s.gauges.records[gaugeOf b].condition = .failed
      ∨ ∀ p : PumpId, bayOf p = b → s.pumps[p].state = .fault ∨ s.pumps[p].state = .held) :
    s.service b = .outOfService := by
  obtain failed | lost := h
  · rw [service, if_pos failed]
  · have none (x : PumpState → Bool) (fault : x .fault = false) (held : x .held = false) :
        ¬((pumpsOf b).any fun p => x s.pumps[p].state) = true := by
      rw [List.any_eq_true]
      rintro ⟨p, member, is⟩
      obtain e | e := lost p (bayOf_pumpsOf b p member)
      · rw [e, fault] at is; cases is
      · rw [e, held] at is; cases is
    unfold service
    split
    · rfl
    · rw [if_neg (none PumpState.serves rfl rfl), if_neg (none (fun x => x == .rundown) rfl rfl)]

theorem examined_congr (plans : t.plans = s.plans) : examined t = examined s := by
  have staged : t.stagedPlan = s.stagedPlan := by simp only [State.stagedPlan, plans]
  unfold examined
  rw [staged, plans]

/-- The entry to RUNNING, with what the Roster then does, is the start-up of R179. -/
theorem State.startedUp_of_enterRunning {a old : State} {x : Settling}
    (loader : a.loader = { s.loader with sampled := true }) (plans : a.plans = s.plans) (sequencer : a.sequencer = s.sequencer)
    (accounts : (∀ b : BayId, s.grantOf b = none) → a.accounts = s.accounts) (flags : FlagsKept s a)
    (pumps : ∀ p : PumpId, a.pumps[p].state = s.pumps[p].state) : StartedUp s (a.enterRunning.settleRoster old x) := by
  have roster : SignalsKept a.enterRunning (a.enterRunning.settleRoster old x) := settleRoster_signals
  have touched : OnlyTouches settled a.enterRunning (a.enterRunning.settleRoster old x) := settleRoster_touches
  have running : a.enterRunning.isRunning := by rw [isRunning, enterRunning_loader]
  have gauges : (a.enterRunning.settleRoster old x).gauges = a.gauges := by
    rw [touched.same .gauges, enterRunning_gauges]
  have told {f : StationFlag} {e : ReportEvent} (h : Told f e a a.enterRunning) :
      Told f e s (a.enterRunning.settleRoster old x) := (h.since flags).stays roster.toFlagsKept
  refine ⟨?_, ?_, ?_, ?_, ?_, ?_, ?_, ?_, ?_, ?_, ?_, ?_⟩
  · rw [touched.same .loader, enterRunning_loader, loader]
  · rw [touched.same .sequencer, enterRunning_sequencer, sequencer]
  · rw [touched.same .plans, enterRunning_plans, examined_congr plans]
  · intro changed
    refine told (enterRunning_adoption ?_)
    rw [← touched.same .plans, plans]
    exact changed
  · intro free
    rw [touched.same .accounts, governing_congr (touched.same .plans) (touched.same .sequencer), enterRunning_accounts,
      accounts free]
    exact AccountTable.replenish_spec _ _
  · exact fun d => ((enterRunning_phaseChange d).since flags).stays roster.toFlagsKept
  · intro failed
    rw [gauges] at failed
    exact roster.river _ (enterRunning_gaugeFailed failed)
  · intro blind
    rw [gauges] at blind
    exact told (enterRunning_headBlind blind)
  · rintro ⟨p, before | after⟩
    · exact told (enterRunning_pumpFault ⟨p, (pumps p).trans before⟩)
    · obtain entered | late := roster.faults running p after
      · rw [enterRunning_pumps] at entered
        exact told (enterRunning_pumpFault ⟨p, entered⟩)
      · exact late.since (flags.andThen enterRunning_flags)
  · intro i jammed
    obtain ⟨up, taken⟩ := enterRunning_gateJammed (flags.jammed i jammed)
    refine ⟨roster.river _ up, fun d owner => ?_⟩
    exact ((taken d (by rw [flags.settings]; exact owner)).since flags).stays roster.toFlagsKept
  · intro b lost
    rw [gauges] at lost
    have unserved := service_lost (s := a) (b := b) (by simpa only [pumps] using lost)
    exact fun d => ((enterRunning_bayUnserved unserved d).since flags).stays roster.toFlagsKept
  · intro d enabled interval
    rw [roster.timers, enterRunning_timer (by rw [flags.settings]; exact enabled) (by rw [(flags.ports d).2.1]; exact interval),
      (flags.ports d).2.1]

/-! ## Loop currents (Table 2-1) -/

/-- Equal readings of a loop give equal records. -/
theorem GaugeRecord.read_congr {g : GaugeSettings} {x : GaugeRecord} {i j : LoopInput} (h : rawCount i = rawCount j) :
    x.read g i = x.read g j := by
  unfold GaugeRecord.read; rw [h]

/-- A current reads as Table 2-1 gives, between the steps by the free threshold. -/
theorem rawCount_current (i : Nat) :
    (i < 3600 → rawCount (.current i) = rawCount .loopOpen)
      ∧ (3600 ≤ i → i ≤ 4000 → rawCount (.current i) = rawCount (.count 0))
      ∧ (20000 ≤ i → rawCount (.current i) = rawCount (.count 4095))
      ∧ (4000 < i → i < 20000 → (i - 4000) * 4095 / 16000 ≤ 4094
          ∧ rawCount (.current i) =
            rawCount (.count (if 0 < (i - 4000) * 4095 % 16000 ∧ Config.roundingThreshold ≤ (i - 4000) * 4095 % 16000 then
              (i - 4000) * 4095 / 16000 + 1 else (i - 4000) * 4095 / 16000))) := by
  refine ⟨fun h => ?_, fun low high => ?_, fun h => ?_, fun low high => ?_⟩
  · simp [rawCount, h]
  · simp [rawCount, not_lt.2 low, high]
  · simp [rawCount, show ¬i < 3600 by omega, show ¬i ≤ 4000 by omega, h]
  · have step : (i - 4000) * 4095 / 16000 ≤ 4094 := by omega
    refine ⟨step, ?_⟩
    rw [rawCount_count (by split <;> omega), rawCount, if_neg (by omega), if_neg (by omega), if_neg (by omega)]

/-! ## The sample, whole -/

theorem State.sample_announced (s : State) (xs : Vector LoopInput 4) : (s.sample xs).loader.sampled = true := by
  by_cases running : s.isRunning
  · rw [sample_running xs running, runningSample_sampled]
  · rw [sample_checking xs running, settle_sampled]; rfl

/-- Settles O6, reading by reading: the Gauge Unit and the Meter from the laws of a sample, the flags from what the settling keeps,
CHECKING from the entry to RUNNING. -/
theorem sampleTakesReadingsFlowsAndVolumes : Obligations.SampleTakesReadingsFlowsAndVolumes := by
  intro river bay0 bay1 bay2 s
  refine ⟨fun idle => congrArg Host.Outcome.next (if_neg idle), ⟨Config.roundingThreshold, fun i g => ?_⟩,
    fun live => ⟨_, exec_sample_live live, ?_⟩⟩
  · obtain ⟨opened, zero, full, between⟩ := rawCount_current i
    exact ⟨fun h => GaugeRecord.read_congr (opened h), fun low high => GaugeRecord.read_congr (zero low high),
      fun h => GaugeRecord.read_congr (full h),
      fun low high => ⟨(between low high).1, GaugeRecord.read_congr (between low high).2⟩⟩
  · generalize #v[river, bay0, bay1, bay2] = xs
    refine ⟨s.sample_records xs, s.sample_stage xs, s.sample_second xs, s.sample_sampledAt xs, ?_, s.sample_blind_iff xs,
      fun b => ?_, s.sample_flows xs, s.sample_runSeconds xs, s.sample_volumes xs, s.sample_announced xs,
      State.sample_touches.mono, fun running => ⟨?_, ?_⟩, fun checking ready => ?_, fun checking offline => ?_⟩
    · rw [State.sample_source, State.sample_river, State.chooseRiver]
      split
      all_goals simp_all
    · exact s.sample_heads xs b
    · rintro ⟨g, before, after⟩
      exact s.sample_gaugeFailed xs running before after
    · exact s.sample_headBlind xs running
    · rw [State.sample_starts xs checking ready]
      have touched := State.announced_touches (s := s) xs
      exact State.startedUp_of_enterRunning (State.announced_loader xs) (touched.same .plans) (touched.same .sequencer)
        (State.announced_accounts xs) (State.announced_flags xs) (State.announced_pump_state xs)
    · have touched := State.announced_touches (s := s) xs
      have roster : OnlyTouches settled (s.announced xs) ((s.announced xs).settleRoster s {}) := State.settleRoster_touches
      rw [State.sample_waits xs checking offline]
      refine ⟨?_, ?_, ?_⟩
      · rw [roster.same .loader, State.announced_loader]
      · rw [roster.same .plans, touched.same .plans]
      · rw [roster.same .sequencer, touched.same .sequencer]

end Sys2Proof.Machine
end

section
/-! SUPPORT. The accounts stay sound (R50 to R52): what a charge and a replenish make of them, and that no other command moves
them. -/

-- One proof after another, as in Laws: in parallel, the threads of so many outgrow the memory the check allows.
set_option Elab.async false

namespace Sys2Proof.Machine

open Sys2Proof

/-- `AccountsSound`, of the accounts by themselves. -/
def AccountTable.Sound (a : AccountTable) : Prop :=
  (a.station = a.districts[(0 : DistrictId)].liftedPhase + a.districts[(1 : DistrictId)].liftedPhase
    + a.districts[(2 : DistrictId)].liftedPhase + a.districts[(3 : DistrictId)].liftedPhase)
  ∧ ∀ d : DistrictId, -Config.creditBound ≤ a.districts[d].credit ∧ a.districts[d].credit ≤ Config.creditBound
    ∧ a.districts[d].liftedReset ≤ Config.liftedBound

end Sys2Proof.Machine

namespace Sys2Proof.Safety

open Sys2Proof Sys2Proof.Machine

/-- Sound accounts stay sound. -/
def KeepsAccounts (s t : State) : Prop := AccountsSound s → AccountsSound t

variable {bs : List Block} {s t u : State}

theorem accountsSound_iff : AccountsSound s ↔ s.accounts.Sound := Iff.rfl

theorem KeepsAccounts.of_touches (h : OnlyTouches bs s t) (hb : Block.accounts ∉ bs := by decide) : KeepsAccounts s t := by
  intro sound
  rw [accountsSound_iff, h.same .accounts hb]
  exact sound

theorem KeepsAccounts.keep : KeepsAccounts s s := id

theorem KeepsAccounts.andThen (h : KeepsAccounts s t) (g : KeepsAccounts t u) : KeepsAccounts s u := fun sound => g (h sound)

theorem KeepsAccounts.ite {c : Prop} [Decidable c] (h : c → KeepsAccounts s t) (g : ¬c → KeepsAccounts s u) :
    KeepsAccounts s (if c then t else u) := by
  split
  · exact h ‹_›
  · exact g ‹_›

theorem KeepsAccounts.each {α : Type} {f : State → α → State} (h : ∀ t x, KeepsAccounts t (f t x)) (xs : List α) :
    ∀ s : State, KeepsAccounts s (s.each xs f) := by
  induction xs with
  | nil => exact fun _ => .keep
  | cons x xs ih => exact fun s => (h s x).andThen (ih _)

end Sys2Proof.Safety

namespace Sys2Proof.Machine

open Sys2Proof Sys2Proof.Safety

variable {s : State}

/-! ## Charge and replenish -/

/-- The account of a district after a charge to one district (R47). -/
theorem AccountTable.charge_districts (a : AccountTable) (d e : DistrictId) (v : Nat) :
    (a.charge d v).districts[e] = if d = e then a.districts[e].charge v else a.districts[e] := by
  show (a.districts.set d _)[e] = _
  rw [set_get]
  split
  · subst e; rfl
  · rfl

/-- A charge raises one phase total and the station total by the same volume, and its bounds hold (R50 to R52). -/
theorem AccountTable.charge_sound {a : AccountTable} {d : DistrictId} {v : Nat} (h : a.Sound) :
    (a.charge d v).Sound := by
  obtain ⟨total, bounds⟩ := h
  refine ⟨?_, fun e => ?_⟩
  · have phase (e : DistrictId) : (a.charge d v).districts[e].liftedPhase =
        a.districts[e].liftedPhase + if d = e then v else 0 := by
      rw [charge_districts]; split <;> rfl
    have station : (a.charge d v).station = a.station + v := rfl
    have once : (if d = 0 then v else 0) + (if d = 1 then v else 0) + (if d = 2 then v else 0) + (if d = 3 then v else 0) = v := by
      match d with
      | 0 | 1 | 2 | 3 => simp
    rw [station, total, phase 0, phase 1, phase 2, phase 3]
    omega
  · obtain ⟨low, high, reset⟩ := bounds e
    rw [charge_districts]
    split
    · obtain ⟨low', high'⟩ := lowerCredit_bounds (v := v) high
      exact ⟨low', high', min_le_left _ _⟩
    · exact ⟨low, high, reset⟩

/-- A replenish sets all phase totals to 0 and holds the credits to their bound (R50, R54, R55). -/
theorem AccountTable.replenish_sound {a : AccountTable} {e : PhaseEntry} (h : a.Sound) :
    (a.replenish e).Sound := by
  have account (d : DistrictId) : (a.replenish e).districts[d] =
      { a.districts[d] with credit := raiseCredit a.districts[d].credit (shareOf e d), liftedPhase := 0 } := by
    simp [replenish]
  obtain ⟨-, bounds⟩ := h
  refine ⟨?_, fun d => ?_⟩
  · rw [account 0, account 1, account 2, account 3]; rfl
  · obtain ⟨low, high, reset⟩ := bounds d
    obtain ⟨low', high'⟩ := raiseCredit_bounds (v := shareOf e d) low
    rw [account]
    exact ⟨low', high', reset⟩

/-! ## The operations that move accounts -/

/-- A station reset leaves empty accounts (R50 to R52). -/
theorem State.resetFrom_accountsSound : AccountsSound s.resetFrom := by
  show AccountsSound State.reset
  exact ⟨rfl, by decide⟩

theorem State.chargeBay_keepsAccounts {b : BayId} : KeepsAccounts s (s.chargeBay b) := by
  intro sound
  unfold chargeBay
  dsimp only
  split
  · exact sound
  · split
    · exact sound
    · exact AccountTable.charge_sound sound

theorem State.meterSample_keepsAccounts : KeepsAccounts s s.meterSample :=
  (KeepsAccounts.of_touches takeVolumes_touches).andThen (.each (fun _ _ => chargeBay_keepsAccounts) _ _)

theorem State.boundary_keepsAccounts {n : Nat} : KeepsAccounts s (s.boundary n) := by
  intro sound
  rw [accountsSound_iff, boundary_accounts]
  exact AccountTable.replenish_sound sound

/-- The exhausted condition is no part of what `AccountsSound` speaks of. -/
theorem State.setExhausted_keepsAccounts {x : Bool} : KeepsAccounts s (s.withAccounts { s.accounts with exhausted := x }) := id

theorem State.evaluateExhausted_keepsAccounts {was : State} : KeepsAccounts s (s.evaluateExhausted was) := by
  refine .ite (fun _ => ?_) fun _ => .ite (fun _ => ?_) fun _ => .keep
  · exact ((setExhausted_keepsAccounts.andThen (.of_touches raiseStation_touches)).andThen (.of_touches reportAll_touches)).andThen
      (.each (fun _ _ => .of_touches closeReturning_touches) _ _)
  · exact (setExhausted_keepsAccounts.andThen (.of_touches reportAll_touches)).andThen (.of_touches arbitrateAll_touches)

theorem State.leaveChecking_keepsAccounts : KeepsAccounts s s.leaveChecking := by
  refine .ite (fun _ => ?_) fun _ => .keep
  have boundary : KeepsAccounts s s.startBoundary :=
    (KeepsAccounts.of_touches setStation_touches).andThen boundary_keepsAccounts
  exact boundary.andThen (.of_touches enterRunning_after_boundary)

/-- What the blocks make of a command replenishes the accounts at the entry to RUNNING and leaves them otherwise. -/
theorem State.settle_keepsAccounts {old : State} {x : Settling} : KeepsAccounts s (s.settle old x) :=
  ((KeepsAccounts.of_touches judgeReports_touches).andThen leaveChecking_keepsAccounts).andThen (.of_touches settleRoster_touches)

/-- A change that moves no account, and what the blocks make of it. -/
theorem State.settled_keepsAccounts {t old : State} {x : Settling} {bs : List Block} (h : OnlyTouches bs s t)
    (hb : Block.accounts ∉ bs := by decide) : KeepsAccounts s (t.settle old x) :=
  (KeepsAccounts.of_touches h hb).andThen settle_keepsAccounts

/-- The parts that a line of a pump and what its controller makes of it may move. -/
def lineParts : List Block := .pins :: pumpParts

/-- What follows from a change of a line and the reaction to it. -/
theorem State.lineSettled_keepsAccounts {t u old : State} {x : Settling} (line : OnlyTouches [.pins] s t)
    (reaction : OnlyTouches pumpParts t u) : KeepsAccounts s (u.settle old x) :=
  settled_keepsAccounts (bs := lineParts) (line.andThen reaction)

/-! ## Samples and start-up -/

theorem State.runningSample_keepsAccounts {old : State} {f : BayId → Bool} : KeepsAccounts s (s.runningSample old f) := by
  unfold runningSample
  dsimp only
  refine KeepsAccounts.andThen ?_ settle_keepsAccounts
  refine KeepsAccounts.andThen ?_ (.of_touches (.each (fun _ _ => stopPump_touches) _ _))
  refine KeepsAccounts.andThen ?_ (.of_touches testGrants_touches)
  refine KeepsAccounts.andThen ?_ (.of_touches withReports_touches)
  refine KeepsAccounts.andThen ?_ (.of_touches takeReports_touches)
  refine KeepsAccounts.andThen ?_ (.of_touches takeServices_touches)
  refine KeepsAccounts.andThen ?_ (.of_touches announce_touches)
  exact (KeepsAccounts.of_touches endPortions_touches).andThen evaluateExhausted_keepsAccounts

theorem State.metered_keepsAccounts (xs : Vector LoopInput 4) : KeepsAccounts s (s.metered xs) :=
  ((KeepsAccounts.of_touches beginSample_touches).andThen (.of_touches readGauges_touches)).andThen meterSample_keepsAccounts

theorem State.sample_keepsAccounts (xs : Vector LoopInput 4) : KeepsAccounts s (s.sample xs) :=
  .ite (fun _ => (metered_keepsAccounts xs).andThen runningSample_keepsAccounts) fun _ =>
    ((metered_keepsAccounts xs).andThen (.of_touches announce_touches)).andThen settle_keepsAccounts

theorem State.enterChecking_keepsAccounts : KeepsAccounts s s.enterChecking := by
  unfold enterChecking
  dsimp only
  refine KeepsAccounts.andThen ?_ (.of_touches withReports_touches)
  refine KeepsAccounts.andThen ?_ (.of_touches (.each (fun _ _ => startSelfCheck_touches) _ _))
  exact (KeepsAccounts.of_touches setStation_touches).andThen (.of_touches withGates_touches)

theorem State.completeRead_keepsAccounts {memory fuse : SourceRead} : KeepsAccounts s (s.completeRead memory fuse) := by
  have taken {source : ImageSource} {i : Option Image} {x : Taken} :
      KeepsAccounts s (s.takeImage source i x).enterChecking :=
    (KeepsAccounts.of_touches takeImage_touches).andThen enterChecking_keepsAccounts
  unfold completeRead
  split
  · exact .of_touches setStation_touches
  · exact taken
  · exact taken

/-! ## Frames -/

theorem State.takeFrame_keepsAccounts {d : DistrictId} {frame : Inbound} {kind : Byte} {query : Bool} {body : List Byte}
    {act : State → State} (h : ∀ t, KeepsAccounts t (act t)) :
    KeepsAccounts s (s.takeFrame d frame kind query body act) := by
  refine .ite (fun _ => .keep) fun _ => .ite (fun _ => .of_touches setRx_touches) fun _ => ?_
  refine KeepsAccounts.andThen (.of_touches goodFrame_touches) (.ite (fun _ => .keep) fun _ => ?_)
  split
  · exact .keep
  · exact .of_touches answerFrame_touches
  · exact .of_touches answerFrame_touches
  · exact h _

theorem State.ownFrame_keepsAccounts {d : DistrictId} {pair : Pair} {kind : Byte} {need : Nat} {body : List Byte}
    {act : State → State} (h : KeepsAccounts s (act s)) : KeepsAccounts s (s.ownFrame d pair kind need body act) :=
  .ite (fun _ => .of_touches answerFrame_touches) fun _ => .ite (fun _ => .of_touches answerFrame_touches) fun _ => h

theorem State.actLift_keepsAccounts {d : DistrictId} {pair : Pair} {body : List Byte} :
    KeepsAccounts s (s.actLift d pair body) := by
  unfold actLift
  split
  · exact .of_touches answerFrame_touches
  · exact (((KeepsAccounts.of_touches enterOrder_touches).andThen (.of_touches answerFrame_touches)).andThen
      (.of_touches (.each (fun _ _ => arbitrateFree_touches) _ _))).andThen settle_keepsAccounts

theorem State.actWithdraw_keepsAccounts {d : DistrictId} {pair : Pair} {body : List Byte} :
    KeepsAccounts s (s.actWithdraw d pair body) := by
  refine .ite (fun _ => .of_touches answerFrame_touches) fun _ => ?_
  split
  · refine .ite (fun _ => ?_) fun _ => .of_touches answerFrame_touches
    exact ((KeepsAccounts.of_touches answerFrame_touches).andThen (.of_touches withdrawOrder_touches)).andThen
      settle_keepsAccounts
  · exact .of_touches answerFrame_touches

theorem State.actSetReport_keepsAccounts {d : DistrictId} {pair : Pair} {body : List Byte} :
    KeepsAccounts s (s.actSetReport d pair body) := by
  unfold actSetReport
  split
  · exact .ite (fun _ => .of_touches answerFrame_touches) fun _ =>
      (KeepsAccounts.of_touches setPort_touches).andThen (.of_touches answerFrame_touches)
  · exact .of_touches answerFrame_touches

theorem State.actPortReset_keepsAccounts {d : DistrictId} {pair : Pair} : KeepsAccounts s (s.actPortReset d pair) :=
  ((((KeepsAccounts.of_touches setPort_touches).andThen (.of_touches cancelOrders_touches)).andThen
    (.of_touches setPort_touches)).andThen (.of_touches answerFrame_touches)).andThen settle_keepsAccounts

/-! ## Notices -/

theorem State.takeNotice_keepsAccounts {body : List Byte} {act : State → Destination → List Byte → State}
    (h : ∀ t dest rest, KeepsAccounts t (act t dest rest)) : KeepsAccounts s (s.takeNotice body act) := by
  have heard : KeepsAccounts s s.goodNotice := .of_touches withRiver_touches
  refine .ite (fun _ => .keep) fun _ => .ite (fun _ => .of_touches setRx_touches) fun _ => .ite (fun _ => ?_) fun _ => heard
  split
  · exact heard.andThen (h _ _ _)
  · exact heard

/-- A notice command keeps the accounts sound when acting on the notice does. -/
theorem State.notice_keepsAccounts {body : List Byte} {f : NoticeForm} {act : State → List Byte → Acted}
    (h : ∀ t rest, KeepsAccounts t (act t rest).state) :
    KeepsAccounts s (s.takeNotice body fun t dest rest => t.actOnNotice f dest rest act) :=
  takeNotice_keepsAccounts fun _ _ _ =>
    .ite (fun _ => .ite (fun _ => .of_touches holdAnswer_touches) fun _ => .keep) fun _ => .ite (fun _ => .keep) fun _ =>
      .ite (fun _ => (h _ _).andThen (.of_touches holdAnswer_touches)) fun _ => h _ _

theorem State.actPlan_keepsAccounts {rest : List Byte} : KeepsAccounts s (s.actPlan rest).state := by
  unfold actPlan
  split
  · exact .of_touches raiseStation_touches
  · exact .of_touches stagePlan_touches

theorem State.actMark_keepsAccounts {rest : List Byte} : KeepsAccounts s (s.actMark rest).state := by
  unfold actMark
  split
  · exact boundary_keepsAccounts.andThen settle_keepsAccounts
  · exact .of_touches raiseStation_touches

theorem State.actAdopt_keepsAccounts {rest : List Byte} : KeepsAccounts s (s.actAdopt rest).state := by
  unfold actAdopt
  split
  · exact ((KeepsAccounts.of_touches swapBanks_touches).andThen boundary_keepsAccounts).andThen settle_keepsAccounts
  · exact .keep

theorem State.actPin_keepsAccounts {rest : List Byte} : KeepsAccounts s (s.actPin rest).state := by
  unfold actPin
  split
  · exact settled_keepsAccounts withSequencer_touches
  · exact .keep

theorem State.actUnpin_keepsAccounts {rest : List Byte} : KeepsAccounts s (s.actUnpin rest).state := by
  unfold actUnpin
  split
  · exact settled_keepsAccounts withSequencer_touches
  · exact .keep

theorem State.actHold_keepsAccounts {rest : List Byte} : KeepsAccounts s (s.actHold rest).state := by
  unfold actHold
  split
  · exact .keep
  · split
    · exact .keep
    · exact settled_keepsAccounts (setHold_touches.andThen takeHold_touches (ds := pumpParts))

theorem State.actRelease_keepsAccounts {rest : List Byte} : KeepsAccounts s (s.actRelease rest).state := by
  unfold actRelease
  split
  · exact .keep
  · split
    · exact settled_keepsAccounts (setHold_touches.andThen takeRelease_touches (ds := pumpParts))
    · exact .keep

theorem State.actClear_keepsAccounts {rest : List Byte} : KeepsAccounts s (s.actClear rest).state := by
  unfold actClear
  split
  · exact .keep
  · split
    · exact .keep
    · split
      · exact settled_keepsAccounts clearKinds_touches
      · exact .keep

theorem State.actGateClear_keepsAccounts {rest : List Byte} : KeepsAccounts s (s.actGateClear rest).state := by
  unfold actGateClear
  split
  · exact .keep
  · split
    · exact ((KeepsAccounts.of_touches startClosing_touches).andThen (.of_touches setFaulted_touches)).andThen
        (.of_touches reopen_touches)
    · exact .keep

/-! ## Commands -/

/-- Only a sample charges the accounts, and only a phase boundary replenishes them. -/
theorem exec_completes_keepingAccounts (c : Instr) (s : State) : Completes (exec c s) (KeepsAccounts s) := by
  cases c
  case stationReset => exact ⟨_, rfl, fun _ => State.resetFrom_accountsSound⟩
  case resetRelease => exact ⟨_, rfl, .of_touches State.withLoader_touches⟩
  case imageReadComplete => exact ⟨_, rfl, .ite (fun _ => State.completeRead_keepsAccounts) fun _ => .keep⟩
  case sample => exact ⟨_, rfl, .ite (fun _ => State.sample_keepsAccounts _) fun _ => .keep⟩
  case sequencerSecond => exact ⟨_, rfl, .of_touches State.withSequencer_touches⟩
  case durationExpiry =>
    exact ⟨_, rfl, .ite (fun _ => State.boundary_keepsAccounts.andThen State.settle_keepsAccounts) fun _ => .keep⟩
  case plan => exact ⟨_, rfl, State.notice_keepsAccounts fun _ _ => State.actPlan_keepsAccounts⟩
  case mark => exact ⟨_, rfl, State.notice_keepsAccounts fun _ _ => State.actMark_keepsAccounts⟩
  case stage => exact ⟨_, rfl, State.notice_keepsAccounts fun _ _ => .of_touches State.actStage_touches⟩
  case adopt => exact ⟨_, rfl, State.notice_keepsAccounts fun _ _ => State.actAdopt_keepsAccounts⟩
  case pin => exact ⟨_, rfl, State.notice_keepsAccounts fun _ _ => State.actPin_keepsAccounts⟩
  case unpin => exact ⟨_, rfl, State.notice_keepsAccounts fun _ _ => State.actUnpin_keepsAccounts⟩
  case hold => exact ⟨_, rfl, State.notice_keepsAccounts fun _ _ => State.actHold_keepsAccounts⟩
  case release => exact ⟨_, rfl, State.notice_keepsAccounts fun _ _ => State.actRelease_keepsAccounts⟩
  case clear => exact ⟨_, rfl, State.notice_keepsAccounts fun _ _ => State.actClear_keepsAccounts⟩
  case gateClear => exact ⟨_, rfl, State.notice_keepsAccounts fun _ _ => State.actGateClear_keepsAccounts⟩
  case poll => exact ⟨_, rfl, State.notice_keepsAccounts fun _ _ => .of_touches State.withRiver_touches⟩
  case unknownNotice =>
    exact ⟨_, rfl, State.takeNotice_keepsAccounts fun _ _ _ => .ite (fun _ => .keep) fun _ => .of_touches State.rejectNotice_touches⟩
  case stationReplyNotice => exact ⟨_, rfl, State.takeNotice_keepsAccounts fun _ _ _ => .keep⟩
  case stationReplySend =>
    refine ⟨_, rfl, ?_⟩
    split
    · exact .of_touches State.withRiver_touches
    · exact .keep
  case answerDiscard => exact ⟨_, rfl, .ite (fun _ => .of_touches State.dropAnswer_touches) fun _ => .keep⟩
  case lift => exact ⟨_, rfl, State.takeFrame_keepsAccounts fun _ => State.actLift_keepsAccounts⟩
  case withdraw => exact ⟨_, rfl, State.takeFrame_keepsAccounts fun _ => State.actWithdraw_keepsAccounts⟩
  case query =>
    exact ⟨_, rfl, State.takeFrame_keepsAccounts fun _ => State.ownFrame_keepsAccounts (.of_touches State.setPort_touches)⟩
  case setReport =>
    exact ⟨_, rfl, State.takeFrame_keepsAccounts fun _ => State.ownFrame_keepsAccounts State.actSetReport_keepsAccounts⟩
  case portReset =>
    exact ⟨_, rfl, State.takeFrame_keepsAccounts fun _ => State.ownFrame_keepsAccounts State.actPortReset_keepsAccounts⟩
  case unknownFrame => exact ⟨_, rfl, State.takeFrame_keepsAccounts fun _ => .of_touches State.answerFrame_touches⟩
  case frameDiscarded => exact ⟨_, rfl, .of_touches State.setRx_touches⟩
  case frameGapTimeout => exact ⟨_, rfl, .ite (fun _ => .of_touches State.setRx_touches) fun _ => .keep⟩
  case transmitStart =>
    refine ⟨_, rfl, ?_⟩
    split
    · exact .ite (fun _ => .of_touches State.beginSending_touches) fun _ => .keep
    · exact .keep
  case transmitEnd =>
    have sent {d : DistrictId} {q : Port} : KeepsAccounts s (s.setPort d q) := .of_touches State.setPort_touches
    exact ⟨_, rfl, .ite (fun _ => .ite (fun _ => sent.andThen (.of_touches State.placeFreed_touches)) fun _ => sent) fun _ => .keep⟩
  case alwaysReportExpiry => exact ⟨_, rfl, .ite (fun _ => .of_touches State.setPort_touches) fun _ => .keep⟩
  case staggerExpiry => exact ⟨_, rfl, .ite (fun _ => State.settled_keepsAccounts State.withRoster_touches) fun _ => .keep⟩
  case selfCheckLimitExpiry | primeLimitExpiry | startConfirmExpiry | rundownLimitExpiry =>
    exact ⟨_, rfl, .ite (fun _ => State.settled_keepsAccounts State.fault_touches) fun _ => .keep⟩
  case primeHoldExpiry => exact ⟨_, rfl, .ite (fun _ => State.settled_keepsAccounts State.toIdle_touches) fun _ => .keep⟩
  case breakPulseEnd => exact ⟨_, rfl, .of_touches State.setPump_touches⟩
  case readyTrue =>
    exact ⟨_, rfl, .ite (fun _ => .keep) fun _ => State.lineSettled_keepsAccounts State.setReady_touches State.onReady_touches⟩
  case readyFalse => exact ⟨_, rfl, .of_touches State.setReady_touches⟩
  case runningTrue =>
    exact ⟨_, rfl, .ite (fun _ => .keep) fun _ => State.lineSettled_keepsAccounts State.setRunning_touches State.onRunning_touches⟩
  case runningFalse =>
    exact ⟨_, rfl, .ite (fun _ => State.lineSettled_keepsAccounts State.setRunning_touches State.onStopped_touches) fun _ => .keep⟩
  case primedTrue =>
    exact ⟨_, rfl, .ite (fun _ => .keep) fun _ => State.lineSettled_keepsAccounts State.setPrimed_touches State.onSiphonFull_touches⟩
  case primedFalse =>
    exact ⟨_, rfl, .ite (fun _ => State.lineSettled_keepsAccounts State.setPrimed_touches State.onSiphonLost_touches) fun _ => .keep⟩
  case hotTrue =>
    exact ⟨_, rfl, .ite (fun _ => .keep) fun _ => State.lineSettled_keepsAccounts State.setHot_touches State.takeHot_touches⟩
  case hotFalse => exact ⟨_, rfl, .of_touches State.setHot_touches⟩
  case feederOkFalse =>
    exact ⟨_, rfl, .ite
      (fun _ => State.lineSettled_keepsAccounts State.setFeeder_touches (.each (fun _ _ => State.loseSupply_touches) _ _))
      fun _ => .keep⟩
  case feederOkTrue =>
    exact ⟨_, rfl, .ite (fun _ => .keep) fun _ =>
      State.lineSettled_keepsAccounts State.setFeeder_touches (.each (fun _ _ => State.regainSupply_touches) _ _)⟩
  case atOpenTrue =>
    have line {i : IntakeId} {x : Bool} : KeepsAccounts s (s.setAtOpen i x) := .of_touches State.setAtOpen_touches
    exact ⟨_, rfl, .ite (fun _ => line.andThen (.of_touches State.setGate_touches)) fun _ => line⟩
  case atOpenFalse =>
    have line {i : IntakeId} {x : Bool} : KeepsAccounts s (s.setAtOpen i x) := .of_touches State.setAtOpen_touches
    exact ⟨_, rfl, .ite (fun _ => line.andThen (.of_touches State.startOpening_touches)) fun _ => line⟩
  case atShutTrue =>
    have line {i : IntakeId} {x : Bool} : KeepsAccounts s (s.setAtShut i x) := .of_touches State.setAtShut_touches
    exact ⟨_, rfl, .ite (fun _ => line.andThen (.of_touches State.setGate_touches)) fun _ => line⟩
  case atShutFalse =>
    have line {i : IntakeId} {x : Bool} : KeepsAccounts s (s.setAtShut i x) := .of_touches State.setAtShut_touches
    exact ⟨_, rfl, .ite (fun _ => line.andThen (.of_touches State.startClosing_touches)) fun _ => line⟩
  case travelLimitExpiry => exact ⟨_, rfl, .ite (fun _ => State.settled_keepsAccounts State.jam_touches) fun _ => .keep⟩
  case startMarkerReceived => exact ⟨_, rfl, .ite (fun _ => .keep) fun _ => .of_touches State.setRx_touches⟩
  case answerSent => exact ⟨_, rfl, .ite (fun _ => .of_touches State.withRiver_touches) fun _ => .keep⟩

/-- Settles O52: accounts move only where a sample charges a holder and the station alike and where a boundary replenishes. -/
theorem stepKeepsAccountsSound : Obligations.StepKeepsAccountsSound := by
  refine stepKeeps_of_exec (fun _ _ h => h) (fun c s t sound h => ?_) fun s sound => ?_
  · obtain ⟨u, next, kept⟩ := exec_completes_keepingAccounts c s
    rw [h] at next
    cases next
    exact kept sound
  · exact KeepsAccounts.of_touches State.tick_touches (by decide) sound

end Sys2Proof.Machine
end

section
/-! SUPPORT. What a sample charges (R47, R50 to R52, R73): the accounts, the station total and the lifted volumes of the portions,
bay by bay. -/

-- One proof after another, as in Laws: in parallel, the threads of so many outgrow the memory the check allows.
set_option Elab.async false

namespace Sys2Proof.Machine

open Sys2Proof Sys2Proof.Safety

variable {s t : State}

/-! ## Charges to one account -/

/-- Two charges come to one of both volumes (R50, R51). -/
theorem Account.charge_charge (a : Account) (v w : Nat) : (a.charge v).charge w = a.charge (v + w) := by
  simp only [charge, lowerCredit, Config.creditBound, Config.liftedBound, Account.mk.injEq]
  omega

/-- A charge of nothing leaves an account within its bounds as it is (R46, R50, R51). -/
theorem Account.charge_zero {a : Account} (low : -Config.creditBound ≤ a.credit) (reset : a.liftedReset ≤ Config.liftedBound) :
    a.charge 0 = a := by
  obtain ⟨credit, phase, total⟩ := a
  simp only [charge, lowerCredit, Config.creditBound, Config.liftedBound, Account.mk.injEq] at *
  omega

/-! ## What each bay is charged to -/

/-- The district and tag of a bay's grant, which name its portion (Table 5-1). -/
def State.claim (s : State) (b : BayId) : Option (DistrictId × Byte) := (s.grantOf b).map fun g => (g.district, g.tag)

/-- The sum of the sample volumes of the bays of a list that a district holds. -/
def State.liftedFor (s : State) (d : DistrictId) (xs : List BayId) : Nat :=
  ((xs.filter fun b => (s.grantOf b).map Grant.district == some d).map fun b => s.meter.volumes[b]).sum

/-- The sum of the sample volumes of the GRANTED bays of a list. -/
def State.liftedByStation (s : State) (xs : List BayId) : Nat :=
  ((xs.filter fun b => (s.grantOf b).isSome).map fun b => s.meter.volumes[b]).sum

/-- The part of bay `b`'s sample volume that falls to a portion of district `d` (R73). -/
def State.liftedInto (s : State) (d : DistrictId) (p : Portion) (b : BayId) : Nat :=
  if p.bay = b ∧ s.claim b = some (d, p.tag) then s.meter.volumes[b] else 0

/-- A portion with a volume added to what it has lifted (R73). -/
def Portion.lift (p : Portion) (v : Nat) : Portion := { p with lifted := p.lifted + v }

theorem Portion.lift_lift (p : Portion) (v w : Nat) : (p.lift v).lift w = p.lift (v + w) := by
  simp only [lift, Nat.add_assoc]

/-- The grants name the same holders and portions, and the volumes are the same. -/
structure SameClaims (s t : State) : Prop where
  claims : ∀ b : BayId, t.claim b = s.claim b
  volumes : t.meter.volumes = s.meter.volumes

theorem State.holder_eq_claim (b : BayId) : (s.grantOf b).map Grant.district = (s.claim b).map Prod.fst := by
  rw [claim, Option.map_map]; rfl

theorem State.granted_eq_claim (b : BayId) : (s.grantOf b).isSome = (s.claim b).isSome := by
  rw [claim, Option.isSome_map]

theorem SameClaims.liftedFor (h : SameClaims s t) (d : DistrictId) (xs : List BayId) : t.liftedFor d xs = s.liftedFor d xs := by
  simp only [State.liftedFor, State.holder_eq_claim, h.claims, h.volumes]

theorem SameClaims.liftedByStation (h : SameClaims s t) (xs : List BayId) : t.liftedByStation xs = s.liftedByStation xs := by
  simp only [State.liftedByStation, State.granted_eq_claim, h.claims, h.volumes]

theorem SameClaims.liftedInto (h : SameClaims s t) (d : DistrictId) (p : Portion) (b : BayId) :
    t.liftedInto d p b = s.liftedInto d p b := by
  simp only [State.liftedInto, h.claims, h.volumes]

/-! ## The charge of one bay -/

theorem State.liftedFor_one (d : DistrictId) (b : BayId) :
    s.liftedFor d [b] = if (s.grantOf b).map Grant.district = some d then s.meter.volumes[b] else 0 := by
  simp only [liftedFor, List.filter_cons, List.filter_nil, beq_iff_eq]
  split <;> simp

theorem State.liftedByStation_one (b : BayId) :
    s.liftedByStation [b] = if (s.grantOf b).isSome then s.meter.volumes[b] else 0 := by
  simp only [liftedByStation, List.filter_cons, List.filter_nil]
  split <;> simp

/-- The charge of a GRANTED bay that has lifted (R47). -/
def State.chargedTo (s : State) (b : BayId) (g : Grant) : State :=
  ((s.setGrant b (some { g with volume := g.volume + s.meter.volumes[b] })).mapPortions g.district
    (fun p => p.named g.tag b) fun p => p.lift s.meter.volumes[b]).withAccounts
      (s.accounts.charge g.district s.meter.volumes[b])

/-- A bay makes no charge when it is FREE (R47) or has lifted nothing (R46), and else it is charged to its grant. -/
theorem State.chargeBay_cases (b : BayId) :
    ((s.grantOf b = none ∨ s.meter.volumes[b] = 0) ∧ s.chargeBay b = s)
      ∨ ∃ g, s.grantOf b = some g ∧ s.chargeBay b = s.chargedTo b g := by
  unfold chargeBay
  dsimp only
  split
  · exact .inl ⟨.inl ‹_›, rfl⟩
  · split
    · exact .inl ⟨.inr ‹_›, rfl⟩
    · exact .inr ⟨_, ‹_›, rfl⟩

/-- A charge leaves what the grants name and what the Meter has measured. -/
theorem State.chargeBay_sameClaims (b : BayId) : SameClaims s (s.chargeBay b) := by
  refine ⟨fun x => ?_, by rw [chargeBay_touches.same .meter]⟩
  obtain ⟨-, same⟩ | ⟨g, granted, charged⟩ := s.chargeBay_cases b
  · rw [same]
  · have grant : (s.chargedTo b g).grantOf x =
        if b = x then some { g with volume := g.volume + s.meter.volumes[b] } else s.grantOf x := setGrant_grantOf
    rw [charged, claim, claim, grant]
    split
    · subst x; rw [granted]; rfl
    · rfl

/-- The account of a district takes the volume of a bay that it holds (R47). -/
theorem State.chargeBay_account {b : BayId} {d : DistrictId} (sound : AccountsSound s) :
    (s.chargeBay b).accounts.districts[d] = s.accounts.districts[d].charge (s.liftedFor d [b]) := by
  have unchanged (nothing : s.liftedFor d [b] = 0) :
      s.accounts.districts[d] = s.accounts.districts[d].charge (s.liftedFor d [b]) := by
    obtain ⟨low, -, reset⟩ := sound.2 d
    rw [nothing, Account.charge_zero low reset]
  obtain ⟨idle, same⟩ | ⟨g, granted, charged⟩ := s.chargeBay_cases b
  · rw [same]
    refine unchanged ?_
    rw [liftedFor_one]
    obtain free | nothing := idle
    · rw [free]; rfl
    · rw [nothing, ite_self]
  · have accounts : (s.chargedTo b g).accounts = s.accounts.charge g.district s.meter.volumes[b] := rfl
    rw [charged, accounts, AccountTable.charge_districts]
    split
    · subst d; rw [liftedFor_one, granted, Option.map_some, if_pos rfl]
    · exact unchanged (by rw [liftedFor_one, granted, if_neg (by simpa)])

/-- The station total takes the volume of a GRANTED bay (R52). -/
theorem State.chargeBay_station {b : BayId} : (s.chargeBay b).accounts.station = s.accounts.station + s.liftedByStation [b] := by
  rw [liftedByStation_one]
  obtain ⟨free | nothing, same⟩ | ⟨g, granted, charged⟩ := s.chargeBay_cases b
  · rw [same, free]; rfl
  · rw [same, nothing, ite_self]; rfl
  · rw [charged, granted]; rfl

/-- The portion that a bay's grant names takes its volume, and no other portion does (R73). -/
theorem State.chargeBay_queue {b : BayId} {d : DistrictId} :
    (s.chargeBay b).orders.districts[d].queue = s.orders.districts[d].queue.map fun p => p.lift (s.liftedInto d p b) := by
  have unchanged (nothing : ∀ p, s.liftedInto d p b = 0) :
      s.orders.districts[d].queue = s.orders.districts[d].queue.map fun p => p.lift (s.liftedInto d p b) := by
    simp [nothing, Portion.lift]
  obtain ⟨idle, same⟩ | ⟨g, granted, charged⟩ := s.chargeBay_cases b
  · rw [same]
    refine unchanged fun p => ?_
    obtain free | nothing := idle
    · simp [liftedInto, claim, free]
    · rw [liftedInto, nothing, ite_self]
  · have orders : (s.chargedTo b g).orders.districts[d] =
        if g.district = d then
          { s.orders.districts[d] with
            queue := s.orders.districts[d].queue.map fun p => if p.named g.tag b then p.lift s.meter.volumes[b] else p }
        else s.orders.districts[d] := mapPortions_districts
    have claimed : s.claim b = some (g.district, g.tag) := by rw [claim, granted]; rfl
    rw [charged, orders]
    split
    · refine List.map_congr_left fun p _ => ?_
      subst d
      have named : p.named g.tag b = true ↔ p.bay = b ∧ s.claim b = some (g.district, p.tag) := by
        rw [claimed, Portion.named, Bool.and_eq_true, beq_iff_eq, beq_iff_eq]
        simp [and_comm, eq_comm]
      simp only [liftedInto, ← named]
      split <;> rfl
    · exact unchanged fun p => if_neg fun ⟨_, names⟩ => by simp_all

/-! ## The charges of all bays -/

theorem State.liftedFor_cons (d : DistrictId) (b : BayId) (xs : List BayId) :
    s.liftedFor d (b :: xs) = s.liftedFor d [b] + s.liftedFor d xs := by
  simp only [liftedFor, List.filter_cons, List.filter_nil]
  split <;> simp

theorem State.liftedByStation_cons (b : BayId) (xs : List BayId) :
    s.liftedByStation (b :: xs) = s.liftedByStation [b] + s.liftedByStation xs := by
  simp only [liftedByStation, List.filter_cons, List.filter_nil]
  split <;> simp

theorem State.chargeBays_account {d : DistrictId} (xs : List BayId) : ∀ s : State, AccountsSound s →
    (s.each xs fun t b => t.chargeBay b).accounts.districts[d] = s.accounts.districts[d].charge (s.liftedFor d xs) := by
  induction xs with
  | nil =>
    intro s sound
    obtain ⟨low, -, reset⟩ := sound.2 d
    exact (Account.charge_zero low reset).symm
  | cons b xs ih =>
    intro s sound
    rw [liftedFor_cons, ← Account.charge_charge, ← chargeBay_account sound, ← (chargeBay_sameClaims b).liftedFor]
    exact ih _ (chargeBay_keepsAccounts sound)

theorem State.chargeBays_station (xs : List BayId) : ∀ s : State,
    (s.each xs fun t b => t.chargeBay b).accounts.station = s.accounts.station + s.liftedByStation xs := by
  induction xs with
  | nil => exact fun _ => rfl
  | cons b xs ih =>
    intro s
    rw [liftedByStation_cons, ← Nat.add_assoc, ← chargeBay_station, ← (chargeBay_sameClaims b).liftedByStation]
    exact ih _

theorem State.chargeBays_queue {d : DistrictId} (xs : List BayId) : ∀ s : State,
    (s.each xs fun t b => t.chargeBay b).orders.districts[d].queue =
      s.orders.districts[d].queue.map fun p => p.lift (xs.map (s.liftedInto d p)).sum := by
  induction xs with
  | nil => exact fun s => (List.map_id _).symm
  | cons b xs ih =>
    intro s
    refine (ih (s.chargeBay b)).trans ?_
    rw [chargeBay_queue, List.map_map]
    refine List.map_congr_left fun p _ => ?_
    have rest : (s.chargeBay b).liftedInto d (p.lift (s.liftedInto d p b)) = s.liftedInto d p :=
      funext fun x => (chargeBay_sameClaims b).liftedInto d _ x
    simp only [Function.comp_apply, rest, Portion.lift_lift, List.map_cons, List.sum_cons]

/-- A portion takes the whole sample volume of its bay when the bay's grant names it, and none of another (R73). -/
theorem State.liftedInto_allBays (d : DistrictId) (p : Portion) :
    (allBays.map (s.liftedInto d p)).sum = if s.claim p.bay = some (d, p.tag) then s.meter.volumes[p.bay] else 0 := by
  have elsewhere {b : BayId} (h : p.bay ≠ b) : s.liftedInto d p b = 0 := if_neg fun names => h names.1
  have here : s.liftedInto d p p.bay = if s.claim p.bay = some (d, p.tag) then s.meter.volumes[p.bay] else 0 := by
    simp only [liftedInto, true_and]
  rw [← here]
  have three : (allBays.map (s.liftedInto d p)).sum = s.liftedInto d p 0 + (s.liftedInto d p 1 + s.liftedInto d p 2) := rfl
  rw [three]
  match h : p.bay with
  | 0 => rw [elsewhere (b := 1) (by rw [h]; decide), elsewhere (b := 2) (by rw [h]; decide)]; rfl
  | 1 => rw [elsewhere (b := 0) (by rw [h]; decide), elsewhere (b := 2) (by rw [h]; decide), Nat.zero_add]; rfl
  | 2 => rw [elsewhere (b := 0) (by rw [h]; decide), elsewhere (b := 1) (by rw [h]; decide), Nat.zero_add, Nat.zero_add]

end Sys2Proof.Machine
end

section
/-! SUPPORT. What a sample of RUNNING makes of its charges: no portion is charged again, exhaustion is judged once, and a station
that it shuts stays shut (R57, R58, R97). -/

-- One proof after another, as in Laws: in parallel, the threads of so many outgrow the memory the check allows.
set_option Elab.async false

namespace Sys2Proof.Safety

open Sys2Proof Sys2Proof.Machine

/-- A portion keeps its name, its target and what it has lifted (R67, R73). -/
def LoadKept (p q : Portion) : Prop := q.tag = p.tag ∧ q.bay = p.bay ∧ q.target = p.target ∧ q.lifted = p.lifted

/-- No portion is added, renamed or charged. -/
def PortionsRemain (s t : State) : Prop :=
  ∀ d : DistrictId, ∀ q ∈ t.orders.districts[d].queue, ∃ p ∈ s.orders.districts[d].queue, LoadKept p q

/-- The station is exhausted and every bay is FREE (R97). -/
def Shut (s : State) : Prop := s.accounts.exhausted = true ∧ ∀ b : BayId, s.grantOf b = none

/-- What the arbiters and the Roster may do after exhaustion has been judged: they move what the blocks move as they settle, take
no flag back, charge no portion, and start nothing at a station that is shut. -/
structure Aftermath (s t : State) : Prop where
  touches : OnlyTouches settled s t
  signals : SignalsKept s t
  portions : PortionsRemain s t
  shut : Shut s → Shut t

variable {bs : List Block} {s t u : State}

theorem LoadKept.refl (p : Portion) : LoadKept p p := ⟨rfl, rfl, rfl, rfl⟩

theorem LoadKept.trans {p q r : Portion} (h : LoadKept p q) (g : LoadKept q r) : LoadKept p r := by
  obtain ⟨tag, bay, target, lifted⟩ := h
  obtain ⟨tag', bay', target', lifted'⟩ := g
  exact ⟨tag'.trans tag, bay'.trans bay, target'.trans target, lifted'.trans lifted⟩

theorem PortionsRemain.of_touches (h : OnlyTouches bs s t) (hb : Block.orders ∉ bs := by decide) : PortionsRemain s t := by
  intro d q hq
  rw [h.same .orders hb] at hq
  exact ⟨q, hq, .refl q⟩

theorem PortionsRemain.keep : PortionsRemain s s := .of_touches (bs := []) .keep

theorem PortionsRemain.andThen (h : PortionsRemain s t) (g : PortionsRemain t u) : PortionsRemain s u := by
  intro d r hr
  obtain ⟨q, hq, later⟩ := g d r hr
  obtain ⟨p, hp, before⟩ := h d q hq
  exact ⟨p, hp, before.trans later⟩

theorem PortionsRemain.ite {c : Prop} [Decidable c] (h : c → PortionsRemain s t) (g : ¬c → PortionsRemain s u) :
    PortionsRemain s (if c then t else u) := by
  split
  · exact h ‹_›
  · exact g ‹_›

theorem PortionsRemain.each {α : Type} {f : State → α → State} (h : ∀ t x, PortionsRemain t (f t x)) (xs : List α) :
    ∀ s : State, PortionsRemain s (s.each xs f) := by
  induction xs with
  | nil => exact fun _ => .keep
  | cons x xs ih => exact fun s => (h s x).andThen (ih _)

theorem Shut.of_touches (shut : Shut s) (h : OnlyTouches bs s t) (accounts : Block.accounts ∉ bs := by decide)
    (arbiters : Block.arbiters ∉ bs := by decide) : Shut t := by
  obtain ⟨exhausted, free⟩ := shut
  refine ⟨by rw [h.same .accounts accounts]; exact exhausted, fun b => ?_⟩
  rw [State.grantOf, h.same .arbiters arbiters]
  exact free b

theorem Aftermath.keep : Aftermath s s := ⟨.keep, .keep, .keep, id⟩

theorem Aftermath.andThen (h : Aftermath s t) (g : Aftermath t u) : Aftermath s u :=
  ⟨h.touches.andThen g.touches, h.signals.andThen g.signals, h.portions.andThen g.portions, fun shut => g.shut (h.shut shut)⟩

theorem Aftermath.ite {c : Prop} [Decidable c] (h : c → Aftermath s t) (g : ¬c → Aftermath s u) :
    Aftermath s (if c then t else u) := by
  split
  · exact h ‹_›
  · exact g ‹_›

theorem Aftermath.each {α : Type} {f : State → α → State} (h : ∀ t x, Aftermath t (f t x)) (xs : List α) :
    ∀ s : State, Aftermath s (s.each xs f) := by
  induction xs with
  | nil => exact fun _ => .keep
  | cons x xs ih => exact fun s => (h s x).andThen (ih _)

/-- A change of pumps, which neither charges nor grants. -/
theorem Aftermath.of_pumps (h : OnlyTouches pumpParts s t) (signals : SignalsKept s t) : Aftermath s t :=
  ⟨h.mono, signals, .of_touches h, fun shut => shut.of_touches h⟩

theorem Aftermath.running (h : Aftermath s t) (running : s.isRunning) : t.isRunning := h.signals.running running

end Sys2Proof.Safety

namespace Sys2Proof.Machine

open Sys2Proof Sys2Proof.Safety

variable {s : State}

/-! ## Portions -/

theorem State.setOrders_remain {d : DistrictId} {x : DistrictOrders}
    (h : ∀ q ∈ x.queue, ∃ p ∈ s.orders.districts[d].queue, LoadKept p q) : PortionsRemain s (s.setOrders d x) := by
  intro e q hq
  rw [setOrders_districts] at hq
  split at hq
  · subst e; exact h q hq
  · exact ⟨q, hq, .refl q⟩

/-- A change of portions that leaves their loads (Table 4-3). -/
theorem State.mapPortions_remain {d : DistrictId} {pick : Portion → Bool} {f : Portion → Portion}
    (h : ∀ p, LoadKept p (f p)) : PortionsRemain s (s.mapPortions d pick f) := by
  refine setOrders_remain fun q hq => ?_
  obtain ⟨p, hp, rfl⟩ := List.mem_map.1 hq
  refine ⟨p, hp, ?_⟩
  split
  · exact h p
  · exact .refl p

theorem State.setPortion_remain {d : DistrictId} {tag : Byte} {b : BayId} {x : PortionState} :
    PortionsRemain s (s.setPortion d tag b x) := mapPortions_remain fun p => .refl p

theorem State.returnPortion_remain {d : DistrictId} {tag : Byte} {b : BayId} :
    PortionsRemain s (s.returnPortion d tag b) := mapPortions_remain fun p => .refl p

/-- The portions of an order that leaves go, and the others stay (R74, R76). -/
theorem State.endOrder_remain {d : DistrictId} {o : Order} : PortionsRemain s (s.endOrder d o) := by
  refine .ite (fun _ => PortionsRemain.andThen (setOrders_remain fun q hq => ?_) (.of_touches queueDone_touches)) fun _ =>
    setOrders_remain fun q hq => ⟨q, hq, .refl q⟩
  exact ⟨q, List.mem_of_mem_filter hq, .refl q⟩

theorem State.testOrder_remain {d : DistrictId} {o : Order} : PortionsRemain s (s.testOrder d o) :=
  .ite (fun _ => endOrder_remain) fun _ => .keep

theorem State.endPortions_remain {es : List Ending} : PortionsRemain s (s.endPortions es) :=
  (PortionsRemain.each (fun _ _ => setPortion_remain) _ _).andThen
    (.each (fun _ _ => .each (fun _ _ => testOrder_remain) _ _) _ _)

theorem State.startGrant_remain {b : BayId} {w : Contender} : PortionsRemain s (s.startGrant b w) :=
  (((PortionsRemain.of_touches installGrant_touches).andThen setPortion_remain).andThen (.of_touches openGates_touches)).andThen
    (.of_touches reportTo_touches)

theorem State.arbitrateAt_remain {b : BayId} {v : Service} : PortionsRemain s (s.arbitrateAt b v) := by
  unfold arbitrateAt
  split
  · exact .keep
  · split
    · exact startGrant_remain
    · exact .keep

theorem State.arbitrateAll_remain : PortionsRemain s s.arbitrateAll := .each (fun _ _ => arbitrateAt_remain) _ _

theorem State.handOver_remain {b : BayId} {g : Grant} {xs : List IntakeId} {reset : Bool} {w : Contender} :
    PortionsRemain s (s.handOver b g xs reset w) :=
  (((((PortionsRemain.of_touches installGrant_touches).andThen setPortion_remain).andThen
    (.of_touches closeGates_touches)).andThen (.of_touches openGates_touches)).andThen (.of_touches reportEnd_touches)).andThen
      (.of_touches reportTo_touches)

theorem State.freeBay_remain {b : BayId} {g : Grant} {xs : List IntakeId} {reset : Bool} :
    PortionsRemain s (s.freeBay b g xs reset) := .of_touches freeBay_touches

theorem State.closeGrant_remain {b : BayId} {g : Grant} {xs : List IntakeId} {reset : Bool} :
    PortionsRemain s (s.closeGrant b g xs reset) := by
  unfold closeGrant
  split
  · exact handOver_remain
  · exact freeBay_remain

theorem State.runCapReached_remain {b : BayId} {g : Grant} {p : Portion} {lifting : Bool} :
    PortionsRemain s (s.runCapReached b g p lifting) := by
  unfold runCapReached
  dsimp only
  split
  · split
    · exact setPortion_remain.andThen ((PortionsRemain.of_touches setBay_touches).andThen setPortion_remain)
    · exact setPortion_remain.andThen handOver_remain
  · exact setPortion_remain.andThen freeBay_remain

theorem State.testGrant_remain {was : State} {es : List Ending} {b : BayId} {lifting : Bool} :
    PortionsRemain s (s.testGrant was es b lifting) := by
  unfold testGrant
  split
  · exact .keep
  · split
    · exact .keep
    · exact .ite (fun _ => closeGrant_remain) fun _ =>
        .ite (fun _ => runCapReached_remain) fun _ => .of_touches setGrant_touches

theorem State.closeReturning_remain {was : State} {b : BayId} : PortionsRemain s (s.closeReturning was b) := by
  unfold closeReturning
  split
  · exact .keep
  · exact returnPortion_remain.andThen freeBay_remain

theorem State.takeService_remain {was : State} {b : BayId} {v : Service} : PortionsRemain s (s.takeService was b v) := by
  unfold takeService
  split
  · split
    · exact (PortionsRemain.of_touches reportAll_touches).andThen closeReturning_remain
    · exact arbitrateAt_remain
    · exact .keep
  · exact .keep

/-! ## A station that is shut -/

/-- While exhausted no bay has a winner (R58, R87). -/
theorem State.winnerAt_exhausted {b : BayId} {v : Service} (h : s.accounts.exhausted = true) : s.winnerAt b v = none :=
  if_pos (.inr (.inl h))

theorem State.arbitrateAt_shut {b : BayId} {v : Service} (h : Shut s) : s.arbitrateAt b v = s := by
  obtain ⟨exhausted, free⟩ := h
  rw [arbitrateAt, winnerAt_exhausted exhausted]
  exact ite_self s

theorem State.closeReturning_free {was : State} {b : BayId} (h : s.grantOf b = none) : s.closeReturning was b = s := by
  rw [closeReturning, h]

theorem State.testGrant_free {was : State} {es : List Ending} {b : BayId} {lifting : Bool} (h : s.grantOf b = none) :
    s.testGrant was es b lifting = s := by
  rw [testGrant, h]

theorem State.takeService_shut {was : State} {b : BayId} {v : Service} (h : Shut s) : Shut (s.takeService was b v) := by
  have told : Shut (s.reportAll .bayUnserved) := h.of_touches reportAll_touches
  unfold takeService
  split
  · split
    · rw [closeReturning_free (told.2 b)]; exact told
    · rw [arbitrateAt_shut h]; exact h
    · exact h
  · exact h

/-! ## After the judgement of exhaustion -/

theorem State.takeServices_aftermath {was : State} {xs : List (BayId × Service)} : Aftermath s (s.takeServices was xs) :=
  .each (fun _ _ => ⟨takeService_touches, takeService_signals, takeService_remain, takeService_shut⟩) _ _

theorem State.takeReports_aftermath {was : State} : ∀ {rounds n : Nat} {s : State},
    Aftermath s (State.takeReports was rounds n s)
  | 0, _, _ => .keep
  | _ + 1, _, _ => takeServices_aftermath.andThen takeReports_aftermath

theorem State.withReports_aftermath {x : List PumpReport} : Aftermath s (s.withReports x) :=
  .of_pumps withReports_touches.mono (.of_touches withReports_touches)

theorem State.endPortions_aftermath {es : List Ending} : Aftermath s (s.endPortions es) :=
  ⟨endPortions_touches.mono, endPortions_signals, endPortions_remain, fun shut => shut.of_touches endPortions_touches⟩

theorem State.testGrants_aftermath {was : State} {es : List Ending} {f : BayId → Bool} :
    Aftermath s (s.testGrants was es f) :=
  .each (fun _ _ => ⟨testGrant_touches, testGrant_signals, testGrant_remain, fun shut => by
    rw [testGrant_free (shut.2 _)]; exact shut⟩) _ _

theorem State.stopPumps_aftermath {ps : List PumpId} : Aftermath s (s.each ps fun t p => t.stopPump p) :=
  .each (fun _ _ => .of_pumps stopPump_touches stopPump_signals) _ _

theorem State.judgeReports_aftermath {old : State} : Aftermath s (s.judgeReports old) :=
  endPortions_aftermath.andThen takeReports_aftermath

theorem State.settleRoster_aftermath {old : State} {x : Settling} : Aftermath s (s.settleRoster old x) := by
  have called : Aftermath s (s.holdCeiling.callPumps old x.callAll) :=
    (Aftermath.of_pumps holdCeiling_touches.mono holdCeiling_signals).andThen (.of_pumps callPumps_touches callPumps_signals)
  exact ((called.andThen (.ite (fun _ => .of_pumps considerStart_touches considerStart_signals) fun _ => .keep)).andThen
    takeReports_aftermath).andThen withReports_aftermath

/-- While RUNNING the whole settling is such (R179). -/
theorem State.settle_aftermath {old : State} {x : Settling} (running : s.isRunning) : Aftermath s (s.settle old x) := by
  have judged : Aftermath s (s.judgeReports old) := judgeReports_aftermath
  have stays : (s.judgeReports old).leaveChecking = s.judgeReports old := if_neg fun checking => by
    rw [judged.running running] at checking
    cases checking.1
  rw [settle, stays]
  exact judged.andThen settleRoster_aftermath

/-- A sample of RUNNING up to the judgement of exhaustion: the portions that end have ended, and R57 has been tested. -/
def State.exhaustionJudged (s old : State) : State :=
  (s.endPortions (s.sampleEndings old.gauges.headBlind)).evaluateExhausted s

/-- What follows the judgement in a sample of RUNNING (R85, R92, R116). -/
theorem State.runningSample_aftermath {old : State} {f : BayId → Bool} (running : (s.exhaustionJudged old).isRunning) :
    Aftermath (s.exhaustionJudged old).announce (s.runningSample old f) := by
  unfold runningSample
  extract_lets ended a b c stops d
  have taken : Aftermath a b := (takeServices_aftermath.andThen takeReports_aftermath).andThen withReports_aftermath
  have stopped : Aftermath a d := (taken.andThen testGrants_aftermath).andThen stopPumps_aftermath
  exact stopped.andThen (settle_aftermath (stopped.running running))

/-! ## The judgement of exhaustion (R57, R58) -/

theorem State.exhaustionBegins_accounts {was : State} :
    (s.exhaustionBegins was).accounts = { s.accounts with exhausted := true } := by
  have rest : OnlyTouches settled (s.withAccounts { s.accounts with exhausted := true }) (s.exhaustionBegins was) :=
    (raiseStation_touches.andThen reportAll_touches (ds := settled)).andThen (.each (fun _ _ => closeReturning_touches) _ _)
  exact rest.same .accounts

theorem State.exhaustionEnds_accounts : s.exhaustionEnds.accounts = { s.accounts with exhausted := false } := by
  have rest : OnlyTouches grantParts (s.withAccounts { s.accounts with exhausted := false }) s.exhaustionEnds :=
    reportAll_touches.andThen arbitrateAll_touches
  exact rest.same .accounts

/-- After the judgement the condition is that of R57, and no total has moved. -/
theorem State.evaluateExhausted_accounts {was : State} :
    (s.evaluateExhausted was).accounts = { s.accounts with exhausted := s.atAllowance } := by
  unfold evaluateExhausted
  split
  · rename_i h; rw [exhaustionBegins_accounts, h.1]
  · split
    · rename_i h; rw [exhaustionEnds_accounts, h.1]
    · have same : s.accounts.exhausted = s.atAllowance := by
        cases reached : s.atAllowance <;> simp_all
      rw [← same]

theorem State.evaluateExhausted_remain {was : State} : PortionsRemain s (s.evaluateExhausted was) := by
  refine .ite (fun _ => ?_) fun _ => .ite (fun _ => ?_) fun _ => .keep
  · exact (((PortionsRemain.of_touches withAccounts_touches).andThen (.of_touches raiseStation_touches)).andThen
      (.of_touches reportAll_touches)).andThen (.each (fun _ _ => closeReturning_remain) _ _)
  · exact ((PortionsRemain.of_touches withAccounts_touches).andThen (.of_touches reportAll_touches)).andThen arbitrateAll_remain

/-- A grant that closes without handover leaves its bay FREE and the other bays theirs (R91). -/
theorem State.freeBay_grantOf {b x : BayId} {g : Grant} {xs : List IntakeId} {reset : Bool} :
    (s.freeBay b g xs reset).grantOf x = if b = x then none else s.grantOf x := by
  have rest : OnlyTouches [.roster, .pumps, .reports, .gates, .ports, .river] (s.setGrant b none) (s.freeBay b g xs reset) :=
    (((OnlyTouches.each (fun _ _ => stopPump_touches.andThen withdrawCall_touches (ds := pumpParts)) _ _).andThen
      closeGates_touches (ds := .gates :: pumpParts)).andThen reportEnd_touches (ds := .gates :: pumpParts)).andThen
        (.each (fun _ _ => selfClear_touches) _ _)
  rw [grantOf, rest.same .arbiters]
  exact setGrant_grantOf

theorem State.closeReturning_grantOf {was : State} {b x : BayId} :
    (s.closeReturning was b).grantOf x = if b = x then none else s.grantOf x := by
  cases h : s.grantOf b with
  | none =>
    rw [closeReturning_free h]
    split
    · subst x; exact h
    · rfl
  | some g =>
    rw [closeReturning, h]
    dsimp only
    rw [freeBay_grantOf]
    rfl

/-- Every bay of a list whose grants close is FREE (R97). -/
theorem State.closeReturnings_grantOf {was : State} {x : BayId} : ∀ (bs : List BayId) (s : State),
    (s.each bs fun t b => t.closeReturning was b).grantOf x = if x ∈ bs then none else s.grantOf x
  | [], s => by simp [each]
  | b :: bs, s => by
    refine (closeReturnings_grantOf bs (s.closeReturning was b)).trans ?_
    rw [closeReturning_grantOf]
    by_cases same : x = b
    · simp [same]
    · simp [same, Ne.symm same]

theorem State.exhaustionBegins_shut {was : State} : Shut (s.exhaustionBegins was) := by
  refine ⟨by rw [exhaustionBegins_accounts], fun b => ?_⟩
  exact (closeReturnings_grantOf allBays _).trans (if_pos (mem_allBays b))

theorem State.exhaustionBegins_told {was : State} (h : s.isRunning) : Told .exhausted .exhausted s (s.exhaustionBegins was) := by
  have set (x : AccountTable) : SignalsKept s (s.withAccounts x) := .of_touches withAccounts_touches
  exact ((raised_told ((set _).running h)).since (set _).toFlagsKept).stays
    (SignalsKept.each (fun _ _ => closeReturning_signals) allBays _).toFlagsKept

theorem State.exhaustionEnds_taken (h : s.isRunning) : EventTakenByAll .exhaustionEnd s s.exhaustionEnds := by
  have clear (x : AccountTable) : SignalsKept s (s.withAccounts x) := .of_touches withAccounts_touches
  exact fun d => ((reportAll_taken ((clear _).running h) d).since (clear _).toFlagsKept).stays arbitrateAll_signals.toFlagsKept

section
variable {old : State}

theorem State.exhaustionJudged_touches : OnlyTouches (.accounts :: settled) s (s.exhaustionJudged old) :=
  endPortions_touches.andThen evaluateExhausted_touches

theorem State.exhaustionJudged_signals : SignalsKept s (s.exhaustionJudged old) :=
  endPortions_signals.andThen evaluateExhausted_signals

theorem State.exhaustionJudged_remain : PortionsRemain s (s.exhaustionJudged old) :=
  endPortions_remain.andThen evaluateExhausted_remain

/-- The ends of portions leave what R57 compares. -/
theorem State.endPortions_atAllowance {es : List Ending} : (s.endPortions es).atAllowance = s.atAllowance := by
  rw [atAllowance, governing_congr (endPortions_touches.same .plans) (endPortions_touches.same .sequencer),
    endPortions_touches.same .accounts]
  rfl

theorem State.exhaustionJudged_accounts :
    (s.exhaustionJudged old).accounts = { s.accounts with exhausted := s.atAllowance } := by
  rw [exhaustionJudged, evaluateExhausted_accounts, endPortions_atAllowance, endPortions_touches.same .accounts]

/-- The condition becomes set: every grant closes and EXHAUSTED is signalled (R58, R97). -/
theorem State.exhaustionJudged_begins (running : s.isRunning) (before : s.accounts.exhausted = false)
    (reached : s.atAllowance = true) :
    Shut (s.exhaustionJudged old) ∧ Told .exhausted .exhausted s (s.exhaustionJudged old) := by
  have ended : SignalsKept s (s.endPortions (s.sampleEndings old.gauges.headBlind)) := endPortions_signals
  rw [exhaustionJudged, evaluateExhausted, if_pos]
  · exact ⟨exhaustionBegins_shut, (exhaustionBegins_told (ended.running running)).since ended.toFlagsKept⟩
  · exact ⟨endPortions_atAllowance.trans reached, by rw [endPortions_touches.same .accounts]; exact before⟩

/-- The condition becomes clear: EXHAUSTION_END is taken (R58). -/
theorem State.exhaustionJudged_ends (running : s.isRunning) (before : s.accounts.exhausted = true)
    (below : s.atAllowance = false) : EventTakenByAll .exhaustionEnd s (s.exhaustionJudged old) := by
  have ended : SignalsKept s (s.endPortions (s.sampleEndings old.gauges.headBlind)) := endPortions_signals
  have left : (s.endPortions (s.sampleEndings old.gauges.headBlind)).atAllowance = false :=
    endPortions_atAllowance.trans below
  rw [exhaustionJudged, evaluateExhausted, if_neg (by simp [left]), if_pos]
  · exact fun d => (exhaustionEnds_taken (ended.running running) d).since ended.toFlagsKept
  · exact ⟨left, by rw [endPortions_touches.same .accounts]; exact before⟩

end

/-! ## The charges of a sample -/

/-- The state whose bays a sample charges: the readings taken, the flows and volumes measured. -/
def State.measured (s : State) (xs : Vector LoopInput 4) : State := (s.beginSample.readGauges xs).takeFlows.takeVolumes

section
variable (xs : Vector LoopInput 4)

theorem State.metered_eq : s.metered xs = (s.measured xs).each allBays fun t b => t.chargeBay b := rfl

theorem State.measured_touches :
    OnlyTouches [.second, .gauges, .meter, .roster, .pumps, .gates, .ports, .river] s (s.measured xs) :=
  (beginSample_touches.andThen readGauges_touches
    (ds := [.second, .gauges, .meter, .roster, .pumps, .gates, .ports, .river])).andThen takeVolumes_touches

theorem State.measured_grantOf (b : BayId) : (s.measured xs).grantOf b = s.grantOf b := by
  rw [grantOf, (measured_touches xs).same .arbiters]; rfl

/-- The volumes charged are those that the sample leaves (R46). -/
theorem State.measured_volumes : (s.measured xs).meter.volumes = (s.sample xs).meter.volumes := by
  rw [sample_meter, meterSample_meter]; rfl

/-- The charges leave the exhausted condition as it stood. -/
theorem State.chargeBays_exhausted (bs : List BayId) : ∀ s : State,
    (s.each bs fun t b => t.chargeBay b).accounts.exhausted = s.accounts.exhausted := by
  induction bs with
  | nil => exact fun _ => rfl
  | cons b bs ih =>
    intro s
    refine (ih (s.chargeBay b)).trans ?_
    obtain ⟨-, same⟩ | ⟨g, -, charged⟩ := s.chargeBay_cases b
    · rw [same]
    · rw [charged]; rfl

theorem State.metered_exhausted : (s.metered xs).accounts.exhausted = s.accounts.exhausted := by
  rw [metered_eq, chargeBays_exhausted, (measured_touches xs).same .accounts]

theorem State.metered_governing : (s.metered xs).governing = s.governing :=
  governing_congr ((metered_touches xs).same .plans) ((metered_touches xs).same .sequencer)

section
variable (running : s.isRunning)
include running

/-- What a sample of RUNNING does after it has judged exhaustion. -/
theorem State.sample_aftermath : Aftermath ((s.metered xs).exhaustionJudged s).announce (s.sample xs) := by
  rw [sample_running xs running]
  exact runningSample_aftermath (exhaustionJudged_signals.running ((metered_flags xs).running running))

theorem State.sample_accounts :
    (s.sample xs).accounts = { (s.metered xs).accounts with exhausted := (s.metered xs).atAllowance } := by
  rw [(sample_aftermath xs running).touches.same .accounts, announce_touches.same .accounts, exhaustionJudged_accounts]

theorem State.sample_exhausted_eq : (s.sample xs).accounts.exhausted = (s.metered xs).atAllowance := by
  rw [sample_accounts xs running]

/-- A district's account takes the sample volumes of the bays that it holds (R47). -/
theorem State.sample_account (sound : AccountsSound s) (d : DistrictId) :
    (s.sample xs).accounts.districts[d] = s.accounts.districts[d].charge
      ((allBays.filter fun b => (s.grantOf b).map Grant.district == some d).map fun b => (s.sample xs).meter.volumes[b]).sum := by
  have start : (s.measured xs).accounts = s.accounts := (measured_touches xs).same .accounts
  have lifted := chargeBays_account (d := d) allBays (s.measured xs) (by rw [accountsSound_iff, start]; exact sound)
  rw [← metered_eq, start] at lifted
  rw [sample_accounts xs running]
  simpa only [liftedFor, measured_grantOf, measured_volumes] using lifted

/-- The station total takes the sample volumes of the GRANTED bays (R52). -/
theorem State.sample_station :
    (s.sample xs).accounts.station = s.accounts.station
      + ((allBays.filter fun b => (s.grantOf b).isSome).map fun b => (s.sample xs).meter.volumes[b]).sum := by
  have lifted := chargeBays_station allBays (s.measured xs)
  rw [← metered_eq, (measured_touches xs).same .accounts] at lifted
  rw [sample_accounts xs running]
  simpa only [liftedByStation, measured_grantOf, measured_volumes] using lifted

/-- The station is exhausted exactly when its total has reached the governing allowance (R57). -/
theorem State.sample_exhausted :
    (s.sample xs).accounts.exhausted = decide (s.governing.allowance * 1000 ≤ (s.sample xs).accounts.station) := by
  rw [sample_exhausted_eq xs running, sample_accounts xs running, atAllowance, metered_governing]

theorem State.sample_loader : (s.sample xs).loader = { s.loader with sampled := true } := by
  have judged : ((s.metered xs).exhaustionJudged s).loader = s.loader := by
    rw [exhaustionJudged_touches.same .loader, (metered_touches xs).same .loader]
  rw [(sample_aftermath xs running).touches.same .loader, ← judged]
  rfl

theorem State.sample_plans : (s.sample xs).plans = s.plans := by
  rw [(sample_aftermath xs running).touches.same .plans, announce_touches.same .plans, exhaustionJudged_touches.same .plans,
    (metered_touches xs).same .plans]

theorem State.sample_sequencer : (s.sample xs).sequencer = s.sequencer := by
  rw [(sample_aftermath xs running).touches.same .sequencer, announce_touches.same .sequencer,
    exhaustionJudged_touches.same .sequencer, (metered_touches xs).same .sequencer]

/-- Every portion that a sample leaves has lifted the sample volume of its bay, if the bay's grant named it, and is otherwise as it
was (R73). -/
theorem State.sample_portions {d : DistrictId} {q : Portion} (h : q ∈ (s.sample xs).orders.districts[d].queue) :
    ∃ p ∈ s.orders.districts[d].queue, q.tag = p.tag ∧ q.bay = p.bay ∧ q.target = p.target
      ∧ q.lifted = p.lifted
        + if s.claim p.bay = some (d, p.tag) then (s.sample xs).meter.volumes[p.bay] else 0 := by
  have remain : PortionsRemain (s.metered xs) (s.sample xs) :=
    (exhaustionJudged_remain.andThen (.of_touches announce_touches)).andThen (sample_aftermath xs running).portions
  obtain ⟨r, hr, tag, bay, target, lifted⟩ := remain d q h
  rw [metered_eq, chargeBays_queue, (measured_touches xs).same .orders] at hr
  obtain ⟨p, hp, rfl⟩ := List.mem_map.1 hr
  refine ⟨p, hp, tag, bay, target, lifted.trans ?_⟩
  rw [liftedInto_allBays, measured_volumes, claim, measured_grantOf]
  rfl

/-- When the condition becomes set every grant closes and EXHAUSTED is raised and taken (R58, R97). -/
theorem State.sample_exhaustionBegins (before : s.accounts.exhausted = false) (after : (s.sample xs).accounts.exhausted = true) :
    (∀ b : BayId, (s.sample xs).grantOf b = none) ∧ Told .exhausted .exhausted s (s.sample xs) := by
  have metered : FlagsKept s (s.metered xs) := metered_flags xs
  have aftermath := sample_aftermath xs running
  have announced : SignalsKept ((s.metered xs).exhaustionJudged s) (s.sample xs) :=
    announce_signals.andThen aftermath.signals
  rw [sample_exhausted_eq xs running] at after
  obtain ⟨shut, told⟩ := exhaustionJudged_begins (old := s) (metered.running running) ((metered_exhausted xs).trans before) after
  exact ⟨(aftermath.shut (shut.of_touches announce_touches)).2, (told.since metered).stays announced.toFlagsKept⟩

/-- When it becomes clear EXHAUSTION_END is taken (R58). -/
theorem State.sample_exhaustionEnds (before : s.accounts.exhausted = true) (after : (s.sample xs).accounts.exhausted = false) :
    EventTakenByAll .exhaustionEnd s (s.sample xs) := by
  have metered : FlagsKept s (s.metered xs) := metered_flags xs
  have announced : SignalsKept ((s.metered xs).exhaustionJudged s) (s.sample xs) :=
    announce_signals.andThen (sample_aftermath xs running).signals
  rw [sample_exhausted_eq xs running] at after
  have taken := exhaustionJudged_ends (old := s) (metered.running running) ((metered_exhausted xs).trans before) after
  exact fun d => ((taken d).since metered).stays announced.toFlagsKept

end

end

/-- Settles O7: the charges bay by bay, then the one judgement of exhaustion, after which the sample charges and judges nothing. -/
theorem sampleChargesHoldersAndJudgesExhaustion : Obligations.SampleChargesHoldersAndJudgesExhaustion := by
  intro river bay0 bay1 bay2 s running sound
  refine ⟨_, exec_sample_live (.inr running), ?_⟩
  generalize #v[river, bay0, bay1, bay2] = xs
  refine ⟨fun d => ?_, s.sample_station xs running, s.sample_exhausted xs running, s.sample_loader xs running,
    s.sample_plans xs running, s.sample_sequencer xs running, fun d q hq => s.sample_portions xs running hq,
    s.sample_exhaustionBegins xs running, s.sample_exhaustionEnds xs running⟩
  rw [s.sample_account xs running sound d]
  exact ⟨rfl, rfl, rfl⟩

end Sys2Proof.Machine
end

section
/-! SUPPORT. What stands through the reactions to a command. `Stands` names the writes by which the arbiters, the pump controllers
and the Roster react; a predicate that survives each of them survives the settling of a command (R85 to R100, R107, R111). -/

-- One proof after another, as in Laws: in parallel, the threads of so many outgrow the memory the check allows.
set_option Elab.async false

namespace Sys2Proof.Safety

open Sys2Proof Sys2Proof.Machine

/-- The parts that the reactions move beside orders, grants, gates and ports. -/
def reactionParts : List Block := [.roster, .pumps, .reports, .river]

/-- A predicate that survives each change of a list survives the list. -/
theorem each_keeps {α : Type} {P : State → Prop} {f : State → α → State} :
    ∀ {xs : List α} {s : State}, (∀ x ∈ xs, ∀ t, P t → P (f t x)) → P s → P (s.each xs f)
  | [], _, _, h => h
  | x :: xs, _, keeps, h =>
    each_keeps (xs := xs) (fun y hy => keeps y (List.mem_cons_of_mem _ hy)) (keeps x List.mem_cons_self _ h)

/-! ## The reactions of one pump -/

/-- `P` survives every write by which the controller of pump `p` reacts. -/
structure OnPump (p : PumpId) (P : State → Prop) : Prop where
  moves : ∀ {s x}, P s → P (s.moveTo p x)
  record : ∀ {s x}, P s → P (s.setPump p x)
  told : ∀ {s}, P s → P s.raisePumpFault

namespace OnPump

variable {p : PumpId} {P : State → Prop} (k : OnPump p P) {s : State}
include k

theorem faultWith {x : FaultKind} {xs : List FaultKind} (h : P s) : P (s.faultWith p x xs) :=
  k.told (k.moves (k.record h))

theorem toIdle (h : P s) : P (s.toIdle p) := by
  unfold State.toIdle
  dsimp only
  split
  · exact k.faultWith (k.moves h)
  · exact k.moves h

theorem leaveFault (h : P s) : P (s.leaveFault p) := by
  unfold State.leaveFault
  dsimp only
  split
  · exact k.moves (k.record h)
  · exact k.toIdle (k.record h)

theorem closeUp {gone : FaultKind → Bool} (h : P s) : P (s.closeUp p gone) := by
  unfold State.closeUp
  dsimp only
  split
  · split
    · split
      · split
        · exact k.leaveFault h
        · exact k.record h
      · exact k.record h
    · exact h
  · exact k.record h
  all_goals exact h

theorem selfClear (h : P s) : P (s.selfClear p) := by
  unfold State.selfClear
  split
  · exact k.closeUp h
  · exact h

theorem clearKinds {gone : FaultKind → Bool} (h : P s) : P (s.clearKinds p gone) := k.selfClear (k.closeUp h)

theorem faulted {x : FaultKind} (h : P s) : P (s.fault p x) := k.selfClear (k.faultWith h)

theorem noted {x : FaultKind} (h : P s) : P (s.note p x) := by
  unfold State.note
  split
  · exact h
  · exact k.told (k.record h)

theorem endRundown (h : P s) : P (s.endRundown p) := by
  unfold State.endRundown
  split
  · exact k.selfClear (k.faultWith h)
  · split
    · exact k.moves h
    · exact k.toIdle h

theorem toRundown (h : P s) : P (s.toRundown p) := by
  unfold State.toRundown
  dsimp only
  split
  · exact k.moves h
  · exact k.endRundown (k.moves h)

theorem hotWhileRunning (h : P s) : P (s.hotWhileRunning p) := by
  unfold State.hotWhileRunning
  split
  · exact k.faulted h
  · exact k.toRundown (k.noted h)

theorem toLifting (h : P s) : P (s.toLifting p) := by
  unfold State.toLifting
  dsimp only
  split
  · exact k.hotWhileRunning (k.moves h)
  · exact k.moves h

theorem afterStarting (h : P s) : P (s.afterStarting p) := by
  unfold State.afterStarting
  split
  · exact k.hotWhileRunning h
  · split
    · exact k.toLifting h
    · exact h

theorem toPrimed (h : P s) : P (s.toPrimed p) := by
  unfold State.toPrimed
  dsimp only
  split
  · exact k.faulted (k.moves h)
  · exact k.moves h

theorem toPriming (h : P s) : P (s.toPriming p) := by
  unfold State.toPriming
  dsimp only
  split
  · exact k.faulted (k.moves h)
  · split
    · exact k.toPrimed (k.moves h)
    · exact k.moves h

theorem withdrawCall (h : P s) : P (s.withdrawCall p) := by
  unfold State.withdrawCall
  split
  · exact k.toIdle h
  · exact h

theorem stopPump (h : P s) : P (s.stopPump p) := by
  unfold State.stopPump
  split
  · exact k.toRundown h
  · exact h

end OnPump

/-! ## The reactions of all blocks -/

/-- `P` survives every write by which the blocks react to a command. `May e d` holds where the port of `d` may be told of `e`. -/
structure Stands (May : ReportEvent → DistrictId → Prop) (P : State → Prop) : Prop where
  moved : ∀ {s t}, OnlyTouches reactionParts s t → P s → P t
  told : ∀ {s d e}, May e d → P s → P (s.reportTo d e)
  opened : ∀ {s i}, P s → P (s.openGate i)
  closed : ∀ {s i}, P s → P (s.closeGate i)
  freed : ∀ {s b}, P s → P (s.setGrant b none)
  returned : ∀ {s d tag b}, P s → P (s.returnPortion d tag b)
  granted : ∀ {s b v w}, P s → s.winnerAt b v = some w →
    P ((s.installGrant b w).setPortion w.district w.portion.tag b .inService)
  fault : ∀ d, May .pumpFault d
  unserved : ∀ d, May .bayUnserved d
  holder : ∀ {s b g}, P s → s.grantOf b = some g → May .grantEnd g.district
  winner : ∀ {s b v w}, P s → s.winnerAt b v = some w → May .grantStart w.district

namespace Stands

variable {May : ReportEvent → DistrictId → Prop} {P : State → Prop} (k : Stands May P) {s : State}
include k

/-! ## Pumps -/

theorem raised {f : StationFlag} (h : P s) : P (s.raiseStation f) := k.moved State.raiseStation_touches.mono h

theorem toldAll {e : ReportEvent} (may : ∀ d, May e d) (h : P s) : P (s.reportAll e) :=
  each_keeps (fun d _ _ => k.told (may d)) h

theorem raisePumpFault (h : P s) : P s.raisePumpFault := k.toldAll k.fault (k.raised h)

theorem moveTo {p : PumpId} {x : PumpState} (h : P s) : P (s.moveTo p x) := k.moved State.moveTo_touches.mono h

theorem setPump {p : PumpId} {x : Pump} (h : P s) : P (s.setPump p x) := k.moved State.setPump_touches.mono h

/-- What stands through every reaction stands through those of one pump. -/
theorem onPump {p : PumpId} : OnPump p P where
  moves := k.moveTo
  record := k.setPump
  told := k.raisePumpFault

theorem faultWith {p : PumpId} {x : FaultKind} {xs : List FaultKind} (h : P s) : P (s.faultWith p x xs) := k.onPump.faultWith h

theorem toIdle {p : PumpId} (h : P s) : P (s.toIdle p) := k.onPump.toIdle h

theorem leaveFault {p : PumpId} (h : P s) : P (s.leaveFault p) := k.onPump.leaveFault h

theorem closeUp {p : PumpId} {gone : FaultKind → Bool} (h : P s) : P (s.closeUp p gone) := k.onPump.closeUp h

theorem selfClear {p : PumpId} (h : P s) : P (s.selfClear p) := k.onPump.selfClear h

theorem clearKinds {p : PumpId} {gone : FaultKind → Bool} (h : P s) : P (s.clearKinds p gone) := k.onPump.clearKinds h

theorem faulted {p : PumpId} {x : FaultKind} (h : P s) : P (s.fault p x) := k.onPump.faulted h

theorem noted {p : PumpId} {x : FaultKind} (h : P s) : P (s.note p x) := k.onPump.noted h

theorem endRundown {p : PumpId} (h : P s) : P (s.endRundown p) := k.onPump.endRundown h

theorem toRundown {p : PumpId} (h : P s) : P (s.toRundown p) := k.onPump.toRundown h

theorem hotWhileRunning {p : PumpId} (h : P s) : P (s.hotWhileRunning p) := k.onPump.hotWhileRunning h

theorem toLifting {p : PumpId} (h : P s) : P (s.toLifting p) := k.onPump.toLifting h

theorem afterStarting {p : PumpId} (h : P s) : P (s.afterStarting p) := k.onPump.afterStarting h

theorem toPrimed {p : PumpId} (h : P s) : P (s.toPrimed p) := k.onPump.toPrimed h

theorem toPriming {p : PumpId} (h : P s) : P (s.toPriming p) := k.onPump.toPriming h

theorem withdrawCall {p : PumpId} (h : P s) : P (s.withdrawCall p) := k.onPump.withdrawCall h

theorem stopPump {p : PumpId} (h : P s) : P (s.stopPump p) := k.onPump.stopPump h

theorem rosterCall {p : PumpId} (h : P s) : P (s.rosterCall p) := by
  unfold State.rosterCall State.callPump
  split
  · split
    · exact k.toPriming h
    · exact h
  · exact h

theorem requestStart {p : PumpId} (h : P s) : P (s.requestStart p) := by
  have outstanding {t : State} {x : Option PumpId} (h : P t) : P (t.setOutstanding x) :=
    k.moved State.setOutstanding_touches.mono h
  unfold State.requestStart
  dsimp only
  split
  · exact k.afterStarting (outstanding (k.moved State.giveNumber_touches.mono (k.moveTo (outstanding h))))
  · exact outstanding (outstanding h)

theorem considerStart {xs : List PumpId} (h : P s) : P (s.considerStart xs) := by
  unfold State.considerStart
  split
  · split
    · exact k.requestStart h
    · exact h
  · exact h

/-! ## Grants -/

theorem openGates {xs : List IntakeId} (h : P s) : P (s.openGates xs) := each_keeps (fun _ _ _ => k.opened) h

theorem closeGates {xs : List IntakeId} (h : P s) : P (s.closeGates xs) := each_keeps (fun _ _ _ => k.closed) h

theorem startGrant {b : BayId} {v : Service} {w : Contender} (h : P s) (won : s.winnerAt b v = some w) : P (s.startGrant b w) :=
  k.told (k.winner h won) (k.openGates (k.granted h won))

theorem arbitrateAt {b : BayId} {v : Service} (h : P s) : P (s.arbitrateAt b v) := by
  unfold State.arbitrateAt
  split
  · exact h
  · split
    · exact k.startGrant h ‹_›
    · exact h

theorem arbitrateAll (h : P s) : P s.arbitrateAll := each_keeps (fun _ _ _ => k.arbitrateAt) h

theorem reportEnd {d : DistrictId} {reset : Bool} (may : reset = true ∨ May .grantEnd d) (h : P s) : P (s.reportEnd d reset) := by
  unfold State.reportEnd
  split
  · exact h
  · exact k.told (may.resolve_left ‹_›) h

theorem freeBay {b : BayId} {g : Grant} {xs : List IntakeId} {reset : Bool} (may : reset = true ∨ May .grantEnd g.district)
    (h : P s) : P (s.freeBay b g xs reset) := by
  have stopped : P ((s.setGrant b none).each (pumpsOf b) fun x p => (x.stopPump p).withdrawCall p) :=
    each_keeps (fun _ _ _ h => k.withdrawCall (k.stopPump h)) (k.freed h)
  exact each_keeps (fun _ _ _ => k.selfClear) (k.reportEnd may (k.closeGates stopped))

theorem handOver {b : BayId} {g : Grant} {xs : List IntakeId} {reset : Bool} {v : Service} {w : Contender}
    (may : reset = true ∨ May .grantEnd g.district) (h : P s) (won : s.winnerAt b v = some w) : P (s.handOver b g xs reset w) :=
  k.told (k.winner h won) (k.reportEnd may (k.openGates (k.closeGates (k.granted h won))))

theorem closeGrant {b : BayId} {g : Grant} {xs : List IntakeId} {reset : Bool} (may : reset = true ∨ May .grantEnd g.district)
    (h : P s) : P (s.closeGrant b g xs reset) := by
  unfold State.closeGrant
  split
  · exact k.handOver may h ‹_›
  · exact k.freeBay may h

theorem closeGrants {xs : List Closing} {reset : Bool} (may : ∀ x ∈ xs, reset = true ∨ May .grantEnd x.grant.district)
    (h : P s) : P (s.closeGrants xs reset) :=
  each_keeps (fun x hx _ => k.closeGrant (may x hx)) h

theorem closeReturning {was : State} {b : BayId} (h : P s) : P (s.closeReturning was b) := by
  unfold State.closeReturning
  split
  · exact h
  · exact k.freeBay (.inr (k.holder h ‹_›)) (k.returned h)

theorem takeService {was : State} {b : BayId} {v : Service} (h : P s) : P (s.takeService was b v) := by
  unfold State.takeService
  split
  · split
    · exact k.closeReturning (k.toldAll k.unserved h)
    · exact k.arbitrateAt h
    · exact h
  · exact h

theorem takeServices {was : State} {xs : List (BayId × Service)} (h : P s) : P (s.takeServices was xs) :=
  each_keeps (fun _ _ _ => k.takeService) h

theorem takeReports {was : State} : ∀ {rounds n : Nat} {s : State}, P s → P (State.takeReports was rounds n s)
  | 0, _, _, h => h
  | rounds + 1, n, s, h =>
    takeReports (rounds := rounds) (n := s.reports.length)
      (s := s.takeServices was ((s.reports.drop n).filterMap PumpReport.change)) (k.takeServices h)

/-! ## Settling -/

theorem settleRoster {old : State} {x : Settling} (h : P s) : P (s.settleRoster old x) := by
  have called : P (s.holdCeiling.callPumps old x.callAll) :=
    each_keeps (fun _ _ _ => k.rosterCall) (k.moved State.holdCeiling_touches.mono h)
  have considered {t : State} {c : Prop} [Decidable c] (h : P t) : P (if c then t.considerStart x.stopped else t) := by
    split
    · exact k.considerStart h
    · exact h
  exact k.moved State.withReports_touches.mono (k.takeReports (considered called))

theorem judgeReports {old : State} (ends : ∀ {t es}, P t → P (t.endPortions es)) (h : P s) : P (s.judgeReports old) :=
  k.takeReports (ends h)

/-- Outside CHECKING what stands through every reaction and through ends of portions stands when a command has settled. -/
theorem settle {old : State} {x : Settling} (ends : ∀ {t es}, P t → P (t.endPortions es)) (station : s.loader.station ≠ .checking)
    (h : P s) : P (s.settle old x) := by
  have same : (s.judgeReports old).loader = s.loader := State.judgeReports_touches.same .loader
  have stays : (s.judgeReports old).leaveChecking = s.judgeReports old := if_neg fun c => station (same ▸ c.1)
  rw [State.settle, stays]
  exact k.settleRoster (k.judgeReports ends h)

end Stands

end Sys2Proof.Safety
end

section
/-! SUPPORT. Invariants of orders, gates and ports. `Steady` names the writes by which commands move these three blocks; a predicate
that survives each of them is kept by every step. -/

-- One proof after another, as in Laws: in parallel, the threads of so many outgrow the memory the check allows.
set_option Elab.async false

namespace Sys2Proof.Machine

open Sys2Proof

/-- The state after TRANSMIT_END of a frame in transmission (R76, R164, R171). -/
def State.afterSending (s : State) (d : DistrictId) : State :=
  let t := s.setPort d s.ports[d].endSending
  if s.ports[d].inTransmission.any TxEntry.isDone then t.placeFreed d else t

/-- A travel timer stands only in OPENING and CLOSING (R145). -/
def Gate.TimerSound (g : Gate) : Prop := g.timer ≠ none → g.state = .opening ∨ g.state = .closing

/-- Two ports hold the same entries, the same transmission and the same report owed. -/
def SameLine (q r : Port) : Prop := r.queue = q.queue ∧ r.sending = q.sending ∧ r.owes = q.owes

theorem SameLine.refl (q : Port) : SameLine q q := ⟨rfl, rfl, rfl⟩

/-- Of two writes to one port the second stands. -/
theorem State.setPort_setPort {s : State} {d : DistrictId} {x y : Port} : (s.setPort d x).setPort d y = s.setPort d y := by
  simp [setPort, withPorts]

end Sys2Proof.Machine

namespace Sys2Proof.Safety

open Sys2Proof Sys2Proof.Machine

/-- Every part but the orders, the gates and the ports. -/
def otherParts : List Block :=
  [.pending, .second, .pins, .loader, .settings, .plans, .sequencer, .gauges, .meter, .accounts, .arbiters, .roster, .pumps,
    .reports, .river]

/-- A change of portions that leaves their names (R67). -/
def KeepsNames (f : Portion → Portion) : Prop := ∀ p, (f p).tag = p.tag ∧ (f p).bay = p.bay

/-- `P` survives every write by which a command moves orders, gates or ports, and does not depend on the other parts. -/
structure Steady (P : State → Prop) : Prop where
  quiet : ∀ {s t}, OnlyTouches otherParts s t → P s → P t
  reset : ∀ {s : State}, P s → P s.resetFrom
  counted : ∀ {s : State} {n}, P s → P (s.countTimers n)
  imageTaken : ∀ {s : State} {source i x}, P s → P (s.takeImage source i x)
  gatesTimed : ∀ {s : State} {n}, P s → P (s.withGates (Vector.ofFn fun i : Fin 16 => s.gates[i].startTimer n))
  line : ∀ {s : State} {d : DistrictId} {x}, SameLine s.ports[d] x → P s → P (s.setPort d x)
  asked : ∀ {s : State} {d : DistrictId}, P s → P (s.setPort d s.ports[d].askReport)
  queried : ∀ {s : State} {d : DistrictId} {pair}, P s → P (s.setPort d (s.ports[d].askQuery pair))
  answered : ∀ {s : State} {d : DistrictId} {r}, s.ports[d].replyCount < Config.maxReplies → P s → P (s.queueReply d r)
  sending : ∀ {s : State} {d : DistrictId} {e}, s.ports[d].sending = none → s.ports[d].queue ≠ [] → P s → P (s.beginSending d e)
  sent : ∀ {s : State} {d : DistrictId}, s.ports[d].sending.isSome = true → P s → P (s.afterSending d)
  emptied : ∀ {s : State} {d : DistrictId}, P s → P (s.setPort d s.ports[d].emptyWaiting)
  restored : ∀ {s : State} {d : DistrictId} {x}, P s → P (s.setPort d (s.ports[d].restore x))
  moves : ∀ {s : State} {i : IntakeId} {g : Gate}, s.gates[i].state ≠ .jammed → g.state ≠ .jammed → g.TimerSound → P s →
    P (s.setGate i g)
  jams : ∀ {s : State} {i : IntakeId}, P s → P ((s.setGate i { state := .jammed, timer := none }).setFaulted i true)
  clears : ∀ {s : State} {i : IntakeId}, P s → P ((s.startClosing i).setFaulted i false)
  relabelled : ∀ {s : State} {d pick f}, KeepsNames f → P s → P (s.mapPortions d pick f)
  tested : ∀ {s : State} {d o}, P s → P (s.testOrder d o)
  entered : ∀ {s : State} {d body o ps xs}, s.judgeLift d body = .accepted o ps xs → P s → P (s.enterOrder d o ps)
  cancelled : ∀ {s : State} {d}, P s → P (s.setOrders d { table := [], queue := [], finished := [] })

/-- One more REPLY finds a place in the queue of a port (R161). -/
def HasRoom (d : DistrictId) (s : State) : Prop := s.ports[d].replyCount < Config.maxReplies

namespace Steady

variable {P : State → Prop} (k : Steady P) {s : State}
include k

/-! ## Orders, gates and events -/

theorem told {d : DistrictId} {e : ReportEvent} (h : P s) : P (s.reportTo d e) := by
  unfold State.reportTo
  split
  · have flagged := k.line (x := { s.ports[d] with flags := s.ports[d].flags ||| e.bit }) ⟨rfl, rfl, rfl⟩ h
    have asked := k.asked (d := d) flagged
    rw [State.setPort_self, State.setPort_setPort] at asked
    exact asked
  · exact h

theorem travels {i : IntakeId} {g g' : Gate} {c : Bool} (before : s.gates[i].state ≠ .jammed)
    (now : g.state ≠ .jammed ∧ g.TimerSound) (later : g'.state ≠ .jammed ∧ g'.TimerSound) (h : P s) :
    P (if c then s.setGate i g else s.setGate i g') := by
  split
  · exact k.moves before now.1 now.2 h
  · exact k.moves before later.1 later.2 h

theorem startOpening {i : IntakeId} (before : s.gates[i].state ≠ .jammed) (h : P s) : P (s.startOpening i) :=
  k.travels before ⟨by simp, fun n => absurd rfl n⟩ ⟨by simp, fun _ => .inl rfl⟩ h

theorem startClosing {i : IntakeId} (before : s.gates[i].state ≠ .jammed) (h : P s) : P (s.startClosing i) :=
  k.travels before ⟨by simp, fun n => absurd rfl n⟩ ⟨by simp, fun _ => .inr rfl⟩ h

theorem openGate {i : IntakeId} (h : P s) : P (s.openGate i) := by
  unfold State.openGate
  split
  · exact k.startOpening (by rename_i e; rw [e]; decide) h
  · exact k.startOpening (by rename_i e; rw [e]; decide) h
  all_goals exact h

theorem closeGate {i : IntakeId} (h : P s) : P (s.closeGate i) := by
  unfold State.closeGate
  split
  · exact k.startClosing (by rename_i e; rw [e]; decide) h
  · exact k.startClosing (by rename_i e; rw [e]; decide) h
  all_goals exact h

theorem setPortion {d : DistrictId} {tag : Byte} {b : BayId} {x : PortionState} (h : P s) : P (s.setPortion d tag b x) :=
  k.relabelled (fun _ => ⟨rfl, rfl⟩) h

/-- So the predicate stands through every reaction. -/
theorem stands : Stands (fun _ _ => True) P where
  moved touched h := k.quiet touched.mono h
  told _ h := k.told h
  opened h := k.openGate h
  closed h := k.closeGate h
  freed h := k.quiet State.setGrant_touches.mono h
  returned h := k.relabelled (fun _ => ⟨rfl, rfl⟩) h
  granted h _ := k.setPortion (k.quiet State.installGrant_touches.mono h)
  fault _ := trivial
  unserved _ := trivial
  holder _ _ := trivial
  winner _ _ := trivial

theorem raised {f : StationFlag} (h : P s) : P (s.raiseStation f) := k.stands.raised h

theorem toldAll {e : ReportEvent} (h : P s) : P (s.reportAll e) := k.stands.toldAll (fun _ => trivial) h

theorem endPortions {es : List Ending} (h : P s) : P (s.endPortions es) :=
  each_keeps (fun _ _ _ => each_keeps fun _ _ _ => k.tested) (each_keeps (fun _ _ _ => k.setPortion) h)

theorem closeGrants {xs : List Closing} {reset : Bool} (h : P s) : P (s.closeGrants xs reset) :=
  k.stands.closeGrants (fun _ _ => .inr trivial) h

/-! ## Boundaries and the entry to RUNNING -/

theorem swapBanks (h : P s) : P s.swapBanks := k.toldAll (k.raised (k.quiet State.withPlans_touches.mono h))

theorem boundary {n : Nat} (h : P s) : P (s.boundary n) := by
  have examined : P (if n = 0 then s.examineBank else s) := by
    unfold State.examineBank
    split
    · split
      · exact k.swapBanks h
      · exact h
    · exact h
  have replenished : P (((if n = 0 then s.examineBank else s).enterPhase n).replenish) :=
    k.quiet (State.enterPhase_touches.andThen State.replenish_touches) examined
  exact k.toldAll (k.stands.arbitrateAll replenished)

theorem tellGathered (h : P s) : P s.tellGathered := by
  have gauges {t : State} (h : P t) : P t.tellGauges := k.quiet
    (.ite (fun _ => State.raiseStation_touches.mono) fun _ => .keep) h
  have blind {t : State} (h : P t) : P t.tellBlind := by
    unfold State.tellBlind
    split
    · exact k.toldAll (k.raised h)
    · exact h
  have faults {t : State} (h : P t) : P t.tellFaults := by
    unfold State.tellFaults
    split
    · exact k.stands.raisePumpFault h
    · exact h
  have jams {t : State} (h : P t) : P t.tellJams := by
    refine each_keeps (fun d _ u h => ?_) (k.quiet (.ite (fun _ => .keep) fun _ => State.raiseStation_touches.mono) h)
    split
    · exact k.told h
    · exact h
  have unserved {t : State} (h : P t) : P t.tellUnserved := by
    unfold State.tellUnserved
    split
    · exact k.toldAll h
    · exact h
  exact unserved (jams (faults (blind (gauges h))))

theorem leaveChecking (h : P s) : P s.leaveChecking := by
  unfold State.leaveChecking
  split
  · rw [State.enterRunning_eq]
    refine each_keeps (fun d _ t h => ?_) (k.tellGathered (k.boundary (k.quiet State.setStation_touches.mono h)))
    split
    · exact k.line ⟨rfl, rfl, rfl⟩ h
    · exact h
  · exact h

theorem settle {old : State} {x : Settling} (h : P s) : P (s.settle old x) :=
  k.stands.settleRoster (k.leaveChecking (k.stands.judgeReports k.endPortions h))

/-! ## Pumps -/

theorem setPins {x : Pins} (h : P s) : P (s.withPins x) := k.quiet State.withPins_touches.mono h

theorem tryEndSelfCheck {p : PumpId} (h : P s) : P (s.tryEndSelfCheck p) := by
  unfold State.tryEndSelfCheck State.endSelfCheck
  split
  · split
    · exact k.stands.toIdle h
    · exact k.stands.faulted h
  · exact h

theorem takeHot {p : PumpId} (h : P s) : P (s.takeHot p) := by
  unfold State.takeHot
  split
  case h_6 | h_7 => exact k.stands.hotWhileRunning h
  case h_8 | h_9 => exact k.stands.noted h
  case h_1 | h_2 => exact h
  all_goals exact k.stands.faulted h

theorem loseSupply {p : PumpId} (h : P s) : P (s.loseSupply p) := by
  unfold State.loseSupply
  dsimp only
  split
  · split
    · exact k.stands.setPump h
    all_goals exact h
  · exact h
  · exact h
  · exact k.stands.toIdle h
  · exact k.stands.faulted h
  · exact k.stands.faulted h
  · exact k.stands.faulted h
  · exact k.stands.faulted h
  · split
    · exact h
    · exact h
    · exact k.stands.raisePumpFault (k.stands.setPump h)

theorem regainSupply {p : PumpId} (h : P s) : P (s.regainSupply p) := by
  unfold State.regainSupply
  dsimp only
  split
  · split
    · split
      · exact k.tryEndSelfCheck (k.stands.setPump h)
      · exact h
    all_goals exact h
  · split
    · exact k.stands.clearKinds h
    · exact h
  all_goals exact h

theorem takeHold {p : PumpId} (h : P s) : P (s.takeHold p) := by
  unfold State.takeHold
  split
  case h_1 | h_2 | h_3 => exact k.stands.moveTo h
  case h_4 | h_5 => exact k.stands.toRundown h
  all_goals exact h

theorem onStopped {p : PumpId} (h : P s) : P (s.onStopped p) := by
  unfold State.onStopped
  split
  · exact k.stands.endRundown h
  · exact k.stands.faulted h
  all_goals exact h

theorem onSiphonLost {p : PumpId} (h : P s) : P (s.onSiphonLost p) := by
  unfold State.onSiphonLost
  split
  · exact k.stands.toPriming h
  · exact k.stands.faulted h
  · exact k.stands.faulted h
  all_goals exact h

/-! ## Start-up and samples -/

theorem enterChecking (h : P s) : P s.enterChecking := by
  have timed := k.gatesTimed (n := s.settings.travel) (k.quiet (t := s.setStation .checking) State.setStation_touches.mono h)
  exact k.quiet State.withReports_touches.mono
    (each_keeps (fun _ _ _ h => k.tryEndSelfCheck (k.stands.setPump h)) timed)

theorem completeRead {memory fuse : SourceRead} (h : P s) : P (s.completeRead memory fuse) := by
  unfold State.completeRead
  split
  · exact k.quiet State.setStation_touches.mono h
  · exact k.enterChecking (k.imageTaken h)
  · exact k.enterChecking (k.imageTaken h)

theorem chargeBay {b : BayId} (h : P s) : P (s.chargeBay b) := by
  unfold State.chargeBay
  dsimp only
  split
  · exact h
  · split
    · exact h
    · exact k.quiet State.withAccounts_touches.mono
        (k.relabelled (fun _ => ⟨rfl, rfl⟩) (k.quiet State.setGrant_touches.mono h))

theorem readGauges {xs : Vector LoopInput 4} (h : P s) : P (s.readGauges xs) := by
  have read : P ((s.withReadings xs).withRiverLevel.tellFailed s) := by
    refine k.quiet State.tellFailed_touches.mono (k.quiet (s := s) ?_ h)
    exact OnlyTouches.andThen State.withGauges_touches State.withGauges_touches (bs := [.gauges]) (cs := [.gauges])
  rw [State.readGauges_eq]
  split
  · exact k.toldAll (k.raised read)
  · exact read

theorem metered {xs : Vector LoopInput 4} (h : P s) : P (s.metered xs) := by
  have counted : P s.beginSample :=
    k.quiet State.withMeter_touches.mono (k.counted (k.quiet State.withSecond_touches.mono h))
  exact each_keeps (fun _ _ _ => k.chargeBay) (k.quiet State.takeVolumes_touches.mono (k.readGauges counted))

theorem evaluateExhausted {was : State} (h : P s) : P (s.evaluateExhausted was) := by
  unfold State.evaluateExhausted
  split
  · exact each_keeps (fun _ _ _ => k.stands.closeReturning)
      (k.toldAll (k.raised (k.quiet State.withAccounts_touches.mono h)))
  · split
    · exact k.stands.arbitrateAll (k.toldAll (k.quiet State.withAccounts_touches.mono h))
    · exact h

theorem testGrant {was : State} {es : List Ending} {b : BayId} {lifting : Bool} (h : P s) :
    P (s.testGrant was es b lifting) := by
  have returned {d : DistrictId} {tag : Byte} : P (s.setPortion d tag b .pending) := k.setPortion h
  unfold State.testGrant
  split
  · exact h
  · split
    · exact h
    · split
      · exact k.stands.closeGrant (.inr trivial) h
      · split
        · unfold State.runCapReached
          dsimp only
          split
          · split
            · exact k.setPortion (k.quiet State.setBay_touches.mono returned)
            · exact k.stands.handOver (.inr trivial) returned ‹_›
          · exact k.stands.freeBay (.inr trivial) returned
        · exact k.quiet State.setGrant_touches.mono h

theorem runningSample {old : State} {f : BayId → Bool} (h : P s) : P (s.runningSample old f) := by
  unfold State.runningSample
  extract_lets ended a b c stops d
  have announced : P a := k.quiet State.announce_touches.mono (k.evaluateExhausted (k.endPortions h))
  have judged : P b := k.quiet State.withReports_touches.mono (k.stands.takeReports (k.stands.takeServices announced))
  have tested : P c := each_keeps (fun _ _ _ => k.testGrant) judged
  exact k.settle (each_keeps (fun _ _ _ => k.stands.stopPump) tested)

theorem sample {xs : Vector LoopInput 4} (h : P s) : P (s.sample xs) := by
  have metered : P (s.metered xs) := k.metered h
  unfold State.sample
  dsimp only
  split
  · exact k.runningSample metered
  · exact k.settle (k.quiet State.announce_touches.mono metered)

/-! ## Frames -/

theorem setRx {rx : Receiver} {x : RxState} (h : P s) : P (s.setRx rx x) := by
  unfold State.setRx
  split
  · exact k.line ⟨rfl, rfl, rfl⟩ h
  · exact k.line ⟨rfl, rfl, rfl⟩ h
  · exact k.quiet State.withRiver_touches.mono h

theorem answerFrame {d : DistrictId} {pair : Pair} {kind tag : Byte} {o : ReplyOutcome} {xs : List IntakeStatus}
    (room : HasRoom d s) (h : P s) : P (s.answerFrame d pair kind tag o xs) := k.answered room h

/-- A frame that the port takes is acted on with room for the REPLY that may answer it (R161, check 1). -/
theorem takeFrame {d : DistrictId} {frame : Inbound} {kind : Byte} {query : Bool} {body : List Byte} {act : State → State}
    (acted : ∀ t, (t.answeredByReply d query body.length = true → HasRoom d t) → P t → P (act t)) (h : P s) :
    P (s.takeFrame d frame kind query body act) := by
  unfold State.takeFrame
  split
  · exact h
  · split
    · exact k.setRx h
    · have good : P (s.goodFrame d frame.pair) := k.line ⟨rfl, rfl, rfl⟩ (k.setRx h)
      generalize s.goodFrame d frame.pair = t at good
      dsimp only
      split
      · exact good
      · rename_i full
        have room : t.answeredByReply d query body.length = true → HasRoom d t := fun reply =>
          Nat.lt_of_not_le fun le => full ⟨reply, le⟩
        split
        · exact good
        · exact k.answerFrame (room (by simp [State.answeredByReply, *])) good
        · exact k.answerFrame (room (by simp [State.answeredByReply, *])) good
        · exact acted t room good

theorem ownFrame {d : DistrictId} {pair : Pair} {kind : Byte} {query : Bool} {need : Nat} {body : List Byte} {act : State → State}
    (room : s.answeredByReply d query body.length = true → HasRoom d s) (form : query = true → need = 0)
    (acted : P (act s)) (h : P s) : P (s.ownFrame d pair kind need body act) := by
  unfold State.ownFrame
  split
  · refine k.answerFrame (room ?_) h
    cases query
    · rfl
    · rename_i long
      rw [form rfl] at long
      simp only [State.answeredByReply, bne_iff_ne.2 long, Bool.or_true, Bool.true_or]
  · split
    · rename_i disabled
      exact k.answerFrame (room (by simp only [State.answeredByReply, disabled, Bool.not_false, Bool.or_true, Bool.true_or])) h
    · exact acted

theorem actLift {d : DistrictId} {pair : Pair} {body : List Byte} (room : HasRoom d s) (h : P s) : P (s.actLift d pair body) := by
  unfold State.actLift
  split
  · exact k.answerFrame room h
  · exact k.settle (each_keeps (fun _ _ _ => k.stands.arbitrateAt) (k.answerFrame room (k.entered ‹_› h)))

theorem actWithdraw {d : DistrictId} {pair : Pair} {body : List Byte} (room : HasRoom d s) (h : P s) :
    P (s.actWithdraw d pair body) := by
  have answer {tag : Byte} {o : ReplyOutcome} : P (s.answerFrame d pair kindWithdraw tag o []) := k.answerFrame room h
  unfold State.actWithdraw
  dsimp only
  split
  · exact answer
  · split
    · split
      · refine k.settle (k.closeGrants ?_)
        unfold State.testTag
        split
        · exact k.tested (k.relabelled (fun _ => ⟨rfl, rfl⟩) answer)
        · exact k.relabelled (fun _ => ⟨rfl, rfl⟩) answer
      · exact answer
    · exact answer

theorem actSetReport {d : DistrictId} {pair : Pair} {body : List Byte} (room : HasRoom d s) (h : P s) :
    P (s.actSetReport d pair body) := by
  unfold State.actSetReport
  split
  · split
    · exact k.answerFrame room h
    · refine k.answerFrame ?_ (k.line ⟨rfl, rfl, rfl⟩ h)
      unfold HasRoom
      rw [State.setPort_self]
      exact room
  · exact k.answerFrame room h

omit k in
/-- Asking for a STATUS REPORT takes no reply's place (R163). -/
theorem askReport_replyCount (q : Port) : q.askReport.replyCount = q.replyCount := by
  unfold Port.askReport
  split
  · rfl
  · split
    · rfl
    · simp [Port.replyCount, Port.join, List.countP_append, TxEntry.isReply]

end Steady

/-- No reaction to a command queues a REPLY. -/
theorem hasRoom_stands (d : DistrictId) : Stands (fun _ _ => True) (HasRoom d) where
  moved touched h := by rw [HasRoom, touched.same .ports]; exact h
  told {s e _} _ h := by
    unfold State.reportTo
    split
    · rw [HasRoom, State.setPort_ports, set_get]
      split
      · subst e; rw [Steady.askReport_replyCount]; exact h
      · exact h
    · exact h
  opened h := by rw [HasRoom, State.openGate_touches.same .ports]; exact h
  closed h := by rw [HasRoom, State.closeGate_touches.same .ports]; exact h
  freed h := h
  returned h := h
  granted {s b _ w} h _ := by
    rw [HasRoom, State.setPortion_touches.same .ports, State.installGrant_touches.same .ports]; exact h
  fault _ := trivial
  unserved _ := trivial
  holder _ _ := trivial
  winner _ _ := trivial

namespace Steady

variable {P : State → Prop} (k : Steady P) {s : State}
include k

theorem actPortReset {d : DistrictId} {pair : Pair} (room : HasRoom d s) (h : P s) : P (s.actPortReset d pair) := by
  have emptyRoom : HasRoom d (s.setPort d s.ports[d].emptyWaiting) := by
    have fewer : s.ports[d].emptyWaiting.replyCount ≤ s.ports[d].replyCount := by
      unfold Port.emptyWaiting Port.replyCount Port.inTransmission
      split
      · exact (List.take_sublist _ _).countP_le
      · simp
    rw [HasRoom, State.setPort_self]
    exact Nat.lt_of_le_of_lt fewer room
  have cancels : ∀ {u : State}, HasRoom d u → P u → HasRoom d (u.cancelOrders d) ∧ P (u.cancelOrders d) := fun room h =>
    ⟨(hasRoom_stands d).closeGrants (fun _ _ => .inl rfl) (s := State.mapPortions _ _ _ _) room,
      k.cancelled (k.closeGrants (k.relabelled (fun _ => ⟨rfl, rfl⟩) h))⟩
  obtain ⟨roomAfter, after⟩ := cancels emptyRoom (k.emptied h)
  refine k.settle (k.answerFrame ?_ (k.restored after))
  rw [HasRoom, State.setPort_self]
  exact roomAfter

/-! ## Notices -/

theorem goodNotice (h : P s) : P s.goodNotice := k.quiet State.withRiver_touches.mono h

theorem takeNotice {body : List Byte} {act : State → Destination → List Byte → State}
    (acted : ∀ t dest rest, P t → P (act t dest rest)) (h : P s) : P (s.takeNotice body act) := by
  obtain e | e | e | ⟨dest, e⟩ := s.takeNotice_cases body act
  all_goals rw [e]
  · exact h
  · exact k.setRx h
  · exact k.goodNotice h
  · exact acted _ _ _ (k.goodNotice h)

theorem notice {body : List Byte} {f : NoticeForm} {act : State → List Byte → Acted}
    (acted : ∀ t rest, P t → P (act t rest).state) (h : P s) :
    P (s.takeNotice body fun t dest rest => t.actOnNotice f dest rest act) := by
  refine k.takeNotice (fun t dest rest h => ?_) h
  obtain untouched | after := t.actOnNotice_cases f dest rest act
  · exact k.quiet untouched.mono h
  · exact k.quiet after.mono (acted t rest h)

theorem actPlan {rest : List Byte} (h : P s) : P (s.actPlan rest).state := by
  unfold State.actPlan
  split
  · exact k.raised h
  · exact k.quiet State.stagePlan_touches.mono h

theorem actMark {rest : List Byte} (h : P s) : P (s.actMark rest).state := by
  unfold State.actMark
  split
  · exact k.settle (k.boundary h)
  · exact k.raised h

theorem actAdopt {rest : List Byte} (h : P s) : P (s.actAdopt rest).state := by
  unfold State.actAdopt
  split
  · exact k.settle (k.boundary (k.swapBanks h))
  · exact h

theorem setPin {x : Option (Fin 4)} (h : P s) : P (s.setPin x) := k.settle (k.quiet State.withSequencer_touches.mono h)

theorem actPin {rest : List Byte} (h : P s) : P (s.actPin rest).state := by
  unfold State.actPin
  split
  · exact k.setPin h
  · exact h

theorem actUnpin {rest : List Byte} (h : P s) : P (s.actUnpin rest).state := by
  unfold State.actUnpin
  split
  · exact k.setPin h
  · exact h

theorem actHold {rest : List Byte} (h : P s) : P (s.actHold rest).state := by
  unfold State.actHold
  split
  · exact h
  · split
    · exact h
    · exact k.settle (k.takeHold (k.stands.setPump h))

theorem actRelease {rest : List Byte} (h : P s) : P (s.actRelease rest).state := by
  unfold State.actRelease
  split
  · exact h
  · split
    · refine k.settle ?_
      unfold State.takeRelease
      split
      · exact k.stands.toIdle (k.stands.setPump h)
      · exact k.stands.setPump h
    · exact h

theorem actClear {rest : List Byte} (h : P s) : P (s.actClear rest).state := by
  unfold State.actClear
  split
  · exact h
  · split
    · exact h
    · split
      · exact k.settle (k.stands.clearKinds h)
      · exact h

theorem actGateClear {rest : List Byte} (h : P s) : P (s.actGateClear rest).state := by
  unfold State.actGateClear
  split
  · exact h
  · split
    · dsimp only
      unfold State.reopen
      split
      · exact k.clears h
      · split
        · exact k.openGate (k.clears h)
        · exact k.clears h
    · exact h

/-! ## Jams and commands -/

theorem jam {i : IntakeId} (h : P s) : P (s.jam i) := by
  have ended {t : State} {pick : Portion → Bool} (h : P t) :
      P (t.each allDistricts fun u d => u.mapPortions d pick fun p => { p with state := .ended .gateFault }) :=
    each_keeps (fun _ _ _ => k.relabelled fun _ => ⟨rfl, rfl⟩) h
  have tested {t : State} (h : P t) : P (t.each allDistricts fun u d => u.testOrders d) :=
    each_keeps (fun _ _ _ => each_keeps fun _ _ _ => k.tested) h
  refine each_keeps (fun d _ t h => ?_) (k.raised (k.closeGrants (tested (ended (k.jams h)))))
  split
  · exact k.told h
  · exact h

/-- A command keeps the predicate. -/
theorem command (c : Instr) (h : P s) : Completes (exec c s) P := by
  have acts {b : Prop} [Decidable b] {t : State} (changed : b → P t) : P (if b then t else s) := by
    split
    · exact changed ‹_›
    · exact h
  have changes {b : Prop} [Decidable b] {t : State} (changed : P t) : P (if b then s else t) := by
    split
    · exact h
    · exact changed
  cases c
  case stationReset => exact ⟨_, rfl, k.reset h⟩
  case resetRelease => exact ⟨_, rfl, k.quiet State.withLoader_touches.mono h⟩
  case imageReadComplete => exact ⟨_, rfl, acts fun _ => k.completeRead h⟩
  case sample => exact ⟨_, rfl, acts fun _ => k.sample h⟩
  case sequencerSecond => exact ⟨_, rfl, k.quiet State.withSequencer_touches.mono h⟩
  case durationExpiry => exact ⟨_, rfl, acts fun _ => k.settle (k.boundary h)⟩
  case plan => exact ⟨_, rfl, k.notice (fun _ _ => k.actPlan) h⟩
  case mark => exact ⟨_, rfl, k.notice (fun _ _ => k.actMark) h⟩
  case stage => exact ⟨_, rfl, k.notice (fun _ _ => k.quiet State.actStage_touches.mono) h⟩
  case adopt => exact ⟨_, rfl, k.notice (fun _ _ => k.actAdopt) h⟩
  case pin => exact ⟨_, rfl, k.notice (fun _ _ => k.actPin) h⟩
  case unpin => exact ⟨_, rfl, k.notice (fun _ _ => k.actUnpin) h⟩
  case hold => exact ⟨_, rfl, k.notice (fun _ _ => k.actHold) h⟩
  case release => exact ⟨_, rfl, k.notice (fun _ _ => k.actRelease) h⟩
  case clear => exact ⟨_, rfl, k.notice (fun _ _ => k.actClear) h⟩
  case gateClear => exact ⟨_, rfl, k.notice (fun _ _ => k.actGateClear) h⟩
  case poll => exact ⟨_, rfl, k.notice (fun _ _ => k.quiet State.withRiver_touches.mono) h⟩
  case unknownNotice =>
    exact ⟨_, rfl, k.takeNotice
      (fun _ _ _ => k.quiet (.ite (fun _ => .keep) fun _ => State.rejectNotice_touches.mono)) h⟩
  case stationReplyNotice => exact ⟨_, rfl, k.takeNotice (fun _ _ _ h => h) h⟩
  case stationReplySend =>
    refine ⟨_, rfl, ?_⟩
    split
    · exact k.quiet State.withRiver_touches.mono h
    · exact h
  case answerDiscard => exact ⟨_, rfl, acts fun _ => k.quiet State.dropAnswer_touches.mono h⟩
  case lift => exact ⟨_, rfl, k.takeFrame (fun _ room => k.actLift (room rfl)) h⟩
  case withdraw => exact ⟨_, rfl, k.takeFrame (fun _ room => k.actWithdraw (room rfl)) h⟩
  case query => exact ⟨_, rfl, k.takeFrame (fun _ room h => k.ownFrame room (fun _ => rfl) (k.queried h) h) h⟩
  case setReport =>
    exact ⟨_, rfl, k.takeFrame (fun _ room h => k.ownFrame room (by simp) (k.actSetReport (room rfl) h) h) h⟩
  case portReset =>
    exact ⟨_, rfl, k.takeFrame (fun _ room h => k.ownFrame room (by simp) (k.actPortReset (room rfl) h) h) h⟩
  case unknownFrame => exact ⟨_, rfl, k.takeFrame (fun _ room => k.answerFrame (room rfl)) h⟩
  case frameDiscarded => exact ⟨_, rfl, k.setRx h⟩
  case frameGapTimeout => exact ⟨_, rfl, acts fun _ => k.setRx h⟩
  case transmitStart d =>
    refine ⟨_, rfl, ?_⟩
    split
    · rename_i e rest waits
      exact acts fun may => k.sending may.2.1 (by rw [waits]; exact List.cons_ne_nil _ _) h
    · exact h
  case transmitEnd => exact ⟨_, rfl, acts fun sending => k.sent sending h⟩
  case alwaysReportExpiry d =>
    refine ⟨_, rfl, acts fun _ => ?_⟩
    have timed := k.line (d := d)
      (x := { s.ports[d].askReport with timer := fullInterval s.ports[d].interval }) (s := s.setPort d s.ports[d].askReport)
      (by rw [State.setPort_self]; exact ⟨rfl, rfl, rfl⟩) (k.asked h)
    rw [State.setPort_setPort] at timed
    exact timed
  case staggerExpiry => exact ⟨_, rfl, acts fun _ => k.settle (k.quiet State.withRoster_touches.mono h)⟩
  case selfCheckLimitExpiry | primeLimitExpiry | startConfirmExpiry | rundownLimitExpiry =>
    exact ⟨_, rfl, acts fun _ => k.settle (k.stands.faulted h)⟩
  case primeHoldExpiry => exact ⟨_, rfl, acts fun _ => k.settle (k.stands.toIdle h)⟩
  case breakPulseEnd => exact ⟨_, rfl, k.stands.setPump h⟩
  case readyTrue => exact ⟨_, rfl, changes (k.settle (k.stands.selfClear (k.tryEndSelfCheck (k.setPins h))))⟩
  case readyFalse | hotFalse => exact ⟨_, rfl, k.setPins h⟩
  case runningTrue p =>
    refine ⟨_, rfl, changes (k.settle ?_)⟩
    unfold State.onRunning
    split
    · exact k.stands.toLifting (k.setPins h)
    · exact k.setPins h
  case runningFalse => exact ⟨_, rfl, acts fun _ => k.settle (k.onStopped (k.setPins h))⟩
  case primedTrue p =>
    refine ⟨_, rfl, changes (k.settle ?_)⟩
    unfold State.onSiphonFull
    split
    · exact k.stands.toPrimed (k.setPins h)
    · exact k.setPins h
  case primedFalse => exact ⟨_, rfl, acts fun _ => k.settle (k.onSiphonLost (k.setPins h))⟩
  case hotTrue => exact ⟨_, rfl, changes (k.settle (k.takeHot (k.setPins h)))⟩
  case feederOkFalse => exact ⟨_, rfl, acts fun _ => k.settle (each_keeps (fun _ _ _ => k.loseSupply) (k.setPins h))⟩
  case feederOkTrue => exact ⟨_, rfl, changes (k.settle (each_keeps (fun _ _ _ => k.regainSupply) (k.setPins h)))⟩
  case atOpenTrue i =>
    refine ⟨_, rfl, ?_⟩
    split
    · exact k.moves (s := s.setAtOpen i true) (by rename_i e; show s.gates[i].state ≠ _; rw [e]; decide) (by simp)
        (fun n => absurd rfl n) (k.setPins h)
    · exact k.setPins h
  case atOpenFalse i =>
    refine ⟨_, rfl, ?_⟩
    split
    · exact k.startOpening (s := s.setAtOpen i false) (by rename_i e; show s.gates[i].state ≠ _; rw [e]; decide) (k.setPins h)
    · exact k.setPins h
  case atShutTrue i =>
    refine ⟨_, rfl, ?_⟩
    split
    · exact k.moves (s := s.setAtShut i true) (by rename_i e; show s.gates[i].state ≠ _; rw [e]; decide) (by simp)
        (fun n => absurd rfl n) (k.setPins h)
    · exact k.setPins h
  case atShutFalse i =>
    refine ⟨_, rfl, ?_⟩
    split
    · exact k.startClosing (s := s.setAtShut i false) (by rename_i e; show s.gates[i].state ≠ _; rw [e]; decide) (k.setPins h)
    · exact k.setPins h
  case travelLimitExpiry => exact ⟨_, rfl, acts fun _ => k.settle (k.jam h)⟩
  case startMarkerReceived => exact ⟨_, rfl, changes (k.setRx h)⟩
  case answerSent => exact ⟨_, rfl, acts fun _ => k.quiet State.withRiver_touches.mono h⟩

theorem tick (h : P s) : P s.tick := by
  unfold State.tick
  split
  · exact h
  · dsimp only
    have later : P (s.withSecond (s.second + 1)) := k.quiet State.withSecond_touches.mono h
    split
    · exact k.counted later
    · exact later

/-- A predicate that survives each of the writes is kept by every step. -/
theorem stepKeeps : StepKeeps P := by
  refine stepKeeps_of_exec (fun s x h => k.quiet (t := s.withPending x) ?_ h) (fun c s t h ran => ?_) fun _ h => k.tick h
  · intro b hb
    cases b
    case pending => exact absurd hb (by decide)
    all_goals rfl
  · obtain ⟨u, next, kept⟩ := k.command c h
    rw [ran] at next
    cases next
    exact kept

end Steady

end Sys2Proof.Safety
end

section
/-! SUPPORT. The faulted flags stay those of the JAMMED gates, and timers those of travelling gates (R62, R145). -/

-- One proof after another, as in Laws: in parallel, the threads of so many outgrow the memory the check allows.
set_option Elab.async false

namespace Sys2Proof.Machine

open Sys2Proof Sys2Proof.Safety

variable {s t : State}

/-- One gate is sound with its faulted flag (R62, R145). -/
def Gate.Sound (g : Gate) (faulted : Bool) : Prop := (faulted = true ↔ g.state = .jammed) ∧ g.TimerSound

theorem gatesSound_congr (faulted : t.orders.faulted = s.orders.faulted) (gates : t.gates = s.gates) (h : GatesSound s) :
    GatesSound t := by
  unfold GatesSound
  rw [faulted, gates]
  exact h

theorem gatesSound_of_touches {bs : List Block} (touched : OnlyTouches bs s t) (orders : Block.orders ∉ bs := by decide)
    (gates : Block.gates ∉ bs := by decide) (h : GatesSound s) : GatesSound t :=
  gatesSound_congr (congrArg OrderUnit.faulted (touched.same .orders orders)) (touched.same .gates gates) h

/-- Orders come and go without a change of the faulted flags. -/
theorem State.setOrders_faulted {d : DistrictId} {x : DistrictOrders} : (s.setOrders d x).orders.faulted = s.orders.faulted := rfl

theorem State.testOrder_faulted {d : DistrictId} {o : Order} : (s.testOrder d o).orders.faulted = s.orders.faulted := by
  unfold testOrder endOrder
  dsimp only
  split
  · split <;> rfl
  · rfl

theorem State.placeFreed_faulted {d : DistrictId} : (s.placeFreed d).orders.faulted = s.orders.faulted := by
  unfold placeFreed
  dsimp only
  split <;> rfl

/-- A write of one gate and its faulted flag together. -/
theorem State.setGateFlag_sound {i : IntakeId} {g : Gate} {x : Bool} (sound : g.Sound x)
    (gates : ∀ j, t.gates[j] = if i = j then g else s.gates[j])
    (faulted : ∀ j : IntakeId, t.orders.faulted[j] = if i = j then x else s.orders.faulted[j]) (h : GatesSound s) :
    GatesSound t := by
  intro j
  rw [gates, faulted]
  split
  · exact sound
  · exact h j

theorem State.setFaulted_get {i j : IntakeId} {x : Bool} :
    (s.setFaulted i x).orders.faulted[j] = if i = j then x else s.orders.faulted[j] := set_get _ _ _ _

/-- A change of the timers alone leaves what the flags speak of. -/
theorem State.retimed_sound (orders : t.orders = s.orders) (states : ∀ i : IntakeId, t.gates[i].state = s.gates[i].state)
    (timers : ∀ i : IntakeId, t.gates[i].TimerSound) : GatesSound s → GatesSound t := by
  intro h i
  rw [orders, states i]
  exact ⟨(h i).1, fun runs => by rw [← states i]; exact timers i runs⟩

theorem Gate.count_timerSound {g : Gate} {n : Nat} (h : g.TimerSound) : (g.count n).TimerSound := fun runs =>
  h fun stopped => runs (by simp [Gate.count, countDown, stopped])

theorem Gate.startTimer_state (g : Gate) (n : Nat) : (g.startTimer n).state = g.state := by
  unfold startTimer
  split <;> rfl

theorem Gate.startTimer_timerSound {g : Gate} {n : Nat} (h : g.TimerSound) : (g.startTimer n).TimerSound := by
  unfold startTimer
  split
  · rename_i closing
    exact fun _ => .inr closing
  all_goals exact h

/-- A station reset takes each gate from its AT SHUT input, with no flag set (R62, R154). -/
theorem State.resetFrom_gatesSound : GatesSound s.resetFrom := by
  intro i
  have gate : s.resetFrom.gates[i] = resetGate s.pins.atShut[i] := by simp [resetFrom]
  have flag : s.resetFrom.orders.faulted[i] = false := by
    show (Vector.replicate 16 false)[i] = false
    simp
  rw [gate, flag, resetGate]
  refine ⟨?_, fun runs => absurd rfl runs⟩
  cases s.pins.atShut[i] <;> simp

theorem gatesSound_steady : Steady GatesSound where
  quiet touched := gatesSound_of_touches touched
  reset _ := State.resetFrom_gatesSound
  counted {s n} h := State.retimed_sound (s := s) rfl (fun i => by rw [State.countTimers_gate]; rfl)
    (fun i => by rw [State.countTimers_gate]; exact Gate.count_timerSound (h i).2) h
  imageTaken := gatesSound_of_touches State.takeImage_touches
  gatesTimed {s n} h := by
    have gate (i : IntakeId) : (s.withGates (Vector.ofFn fun i : Fin 16 => s.gates[i].startTimer n)).gates[i] =
        s.gates[i].startTimer n := by simp
    exact State.retimed_sound (s := s) rfl (fun i => by rw [gate, Gate.startTimer_state])
      (fun i => by rw [gate]; exact Gate.startTimer_timerSound (h i).2) h
  line _ := gatesSound_of_touches State.setPort_touches
  asked := gatesSound_of_touches State.setPort_touches
  queried := gatesSound_of_touches State.setPort_touches
  answered _ := gatesSound_of_touches State.queueReply_touches
  sending _ _ := gatesSound_of_touches State.beginSending_touches
  sent {s d} _ h := by
    unfold State.afterSending
    dsimp only
    split
    · exact gatesSound_congr State.placeFreed_faulted (State.placeFreed_touches.same .gates) h
    · exact h
  emptied := gatesSound_of_touches State.setPort_touches
  restored := gatesSound_of_touches State.setPort_touches
  moves {s i g} before now timer h := by
    have clear : s.orders.faulted[i] = false := Bool.eq_false_iff.2 fun set => before ((h i).1.1 set)
    refine State.setGateFlag_sound (i := i) (g := g) (x := false) ⟨by simp [now], timer⟩ (fun j => set_get _ _ _ _) (fun j => ?_) h
    show s.orders.faulted[j] = _
    split
    · rename_i same; rw [← same, clear]
    · rfl
  jams {s i} h := State.setGateFlag_sound (g := { state := .jammed, timer := none }) (x := true)
    ⟨by simp, fun runs => absurd rfl runs⟩ (fun j => set_get _ _ _ _) (fun j => set_get _ _ _ _) h
  clears {s i} h := by
    refine State.setGateFlag_sound (i := i) (g := (s.startClosing i).gates[i]) (x := false) ?_ (fun j => ?_) (fun j => ?_) h
    · rw [State.startClosing_self]
      split
      · exact ⟨by simp, fun runs => absurd rfl runs⟩
      · exact ⟨by simp, fun _ => .inr rfl⟩
    · show (s.startClosing i).gates[j] = _
      split
      · rename_i same; rw [same]
      · exact State.startClosing_others j (Ne.symm ‹_›)
    · rw [State.setFaulted_get, State.startClosing_touches.same .orders]
  relabelled _ := gatesSound_congr State.setOrders_faulted rfl
  tested := gatesSound_congr State.testOrder_faulted (State.testOrder_touches.same .gates)
  entered _ := gatesSound_congr State.setOrders_faulted rfl
  cancelled := gatesSound_congr State.setOrders_faulted rfl

/-- Settles O59: every write of a gate either leaves JAMMED alone or comes with the write of its faulted flag. -/
theorem stepKeepsGatesSound : Obligations.StepKeepsGatesSound := gatesSound_steady.stepKeeps

end Sys2Proof.Machine
end

section
/-! SUPPORT. The split of a LIFT (R67, R68): bays by first appearance, floored shares, and the remainder with the first portion. -/

-- One proof after another, as in Laws: in parallel, the threads of so many outgrow the memory the check allows.
set_option Elab.async false

namespace Sys2Proof.Machine

open Sys2Proof

/-! ## The bays of a kept list -/

/-- Bays of kept intakes join a list of bays, each once (R67). -/
def joinBays (bs : List BayId) (kept : List (IntakeId × BayId)) : List BayId :=
  kept.foldl (fun bs k => if k.2 ∈ bs then bs else bs ++ [k.2]) bs

theorem joinBays_spec : ∀ {kept : List (IntakeId × BayId)} {bs : List BayId}, bs.Nodup →
    (joinBays bs kept).Nodup ∧ ∀ b, b ∈ joinBays bs kept ↔ b ∈ bs ∨ b ∈ kept.map Prod.snd
  | [], bs, h => ⟨h, by simp [joinBays]⟩
  | k :: kept, bs, h => by
    have step : joinBays bs (k :: kept) = joinBays (if k.2 ∈ bs then bs else bs ++ [k.2]) kept := rfl
    rw [step]
    by_cases known : k.2 ∈ bs
    · rw [if_pos known]
      obtain ⟨nodup, members⟩ := joinBays_spec (kept := kept) h
      refine ⟨nodup, fun b => ?_⟩
      rw [members, List.map_cons, List.mem_cons]
      constructor
      · tauto
      · rintro (old | rfl | later) <;> tauto
    · rw [if_neg known]
      have joined : (bs ++ [k.2]).Nodup := by
        rw [List.nodup_append]
        exact ⟨h, List.nodup_singleton _, fun a old b new same => known (by
          rw [List.mem_singleton] at new
          rwa [← new, ← same])⟩
      obtain ⟨nodup, members⟩ := joinBays_spec (kept := kept) joined
      refine ⟨nodup, fun b => ?_⟩
      rw [members, List.map_cons, List.mem_cons, List.mem_append, List.mem_singleton, or_assoc]

theorem baysInOrder_nodup (kept : List (IntakeId × BayId)) : (baysInOrder kept).Nodup :=
  (joinBays_spec List.nodup_nil).1

theorem mem_baysInOrder {kept : List (IntakeId × BayId)} {b : BayId} : b ∈ baysInOrder kept ↔ b ∈ kept.map Prod.snd :=
  ((joinBays_spec (kept := kept) List.nodup_nil).2 b).trans (by simp)

theorem baysInOrder_length_le (kept : List (IntakeId × BayId)) : (baysInOrder kept).length ≤ 3 := by
  simpa using (baysInOrder_nodup kept).length_le_card

theorem baysInOrder_eq_nil {kept : List (IntakeId × BayId)} : baysInOrder kept = [] ↔ kept = [] := by
  constructor
  · intro none
    cases kept with
    | nil => rfl
    | cons k kept =>
      have member : k.2 ∈ baysInOrder (k :: kept) := mem_baysInOrder.2 (by simp)
      rw [none] at member
      cases member
  · rintro rfl; rfl

/-! ## The shares (R68) -/

theorem keptOn_eq_count (kept : List (IntakeId × BayId)) (b : BayId) : keptOn kept b = (kept.map Prod.snd).count b := by
  rw [List.count, List.countP_map]
  rfl

/-- Each kept intake is counted on one bay. -/
theorem sum_keptOn (kept : List (IntakeId × BayId)) : ((baysInOrder kept).map (keptOn kept)).sum = kept.length := by
  have perm : (baysInOrder kept).Perm (kept.map Prod.snd).dedup :=
    (List.perm_ext_iff_of_nodup (baysInOrder_nodup kept) (List.nodup_dedup _)).2 fun b => by
      rw [mem_baysInOrder, List.mem_dedup]
  rw [funext (keptOn_eq_count kept), (perm.map _).sum_eq, List.sum_map_count_dedup_eq_length, List.length_map]

/-- Floors of shares lose less than one for each share. -/
theorem sum_floors (v : Nat) {n : Nat} (pos : 0 < n) (c : BayId → Nat) : ∀ bs : List BayId,
    (bs.map fun b => v * c b / n).sum * n ≤ v * (bs.map c).sum
    ∧ v * (bs.map c).sum ≤ (bs.map fun b => v * c b / n).sum * n + bs.length * (n - 1)
  | [] => by simp
  | b :: bs => by
    obtain ⟨low, high⟩ := sum_floors v pos c bs
    have floor := Nat.div_add_mod' (v * c b) n
    have rest := Nat.mod_lt (v * c b) pos
    simp only [List.map_cons, List.sum_cons, List.length_cons, Nat.add_mul, Nat.mul_add, Nat.one_mul]
    omega

/-- The floored shares of a target miss it by two at most, of the three bays there are. -/
theorem sum_bayShare (v : Nat) {kept : List (IntakeId × BayId)} (some : kept ≠ []) :
    ((baysInOrder kept).map (bayShare v kept)).sum ≤ v ∧ v ≤ ((baysInOrder kept).map (bayShare v kept)).sum + 2 := by
  have pos : 0 < kept.length := List.length_pos_iff.2 some
  obtain ⟨low, high⟩ := sum_floors v pos (keptOn kept) (baysInOrder kept)
  rw [sum_keptOn] at low high
  have few := Nat.mul_le_mul_right (kept.length - 1) (baysInOrder_length_le kept)
  show (List.map (fun b => v * keptOn kept b / kept.length) _).sum ≤ v ∧ v ≤ (List.map (fun b => v * keptOn kept b / kept.length) _).sum + 2
  generalize ((baysInOrder kept).map fun b => v * keptOn kept b / kept.length).sum = sum at low high
  refine ⟨Nat.le_of_mul_le_mul_right low pos, Nat.le_of_lt_succ (Nat.lt_of_mul_lt_mul_right (a := kept.length) ?_)⟩
  simp only [Nat.succ_eq_add_one, Nat.add_mul]
  omega

/-! ## The portions -/

section
variable (tag : Byte) (cls : OrderClass) (v : Nat) (kept : List (IntakeId × BayId))

/-- What the first portion takes beyond its share (R68). -/
def remainder : Nat := v - ((baysInOrder kept).map (bayShare v kept)).sum

theorem splitOrder_cons {b : BayId} {bs : List BayId} (bays : baysInOrder kept = b :: bs) :
    splitOrder tag cls v kept =
      newPortion tag cls kept b (bayShare v kept b + remainder v kept)
        :: bs.map fun c => newPortion tag cls kept c (bayShare v kept c) := by
  unfold splitOrder remainder
  rw [bays]

theorem splitOrder_bays : (splitOrder tag cls v kept).map Portion.bay = baysInOrder kept := by
  cases bays : baysInOrder kept with
  | nil => rw [splitOrder, bays]; rfl
  | cons b bs =>
    rw [splitOrder_cons tag cls v kept bays, List.map_cons, List.map_map]
    exact congrArg (b :: ·) (List.map_id bs)

/-- Every portion of a split is a new one (R69). -/
theorem mem_splitOrder {p : Portion} (h : p ∈ splitOrder tag cls v kept) :
    p = newPortion tag cls kept p.bay p.target := by
  cases bays : baysInOrder kept with
  | nil => rw [splitOrder, bays] at h; cases h
  | cons b bs =>
    rw [splitOrder_cons tag cls v kept bays] at h
    obtain rfl | h := List.mem_cons.1 h
    · rfl
    · obtain ⟨c, -, rfl⟩ := List.mem_map.1 h
      rfl

end

/-- Settles O27: the shares add up to at most the target, and the first portion takes what they miss. -/
theorem splitSharesTheWholeTarget : Obligations.SplitSharesTheWholeTarget := by
  intro tag cls v kept some
  obtain ⟨le, near⟩ := sum_bayShare v some
  cases bays : baysInOrder kept with
  | nil => exact absurd (baysInOrder_eq_nil.1 bays) some
  | cons b bs =>
    have split := splitOrder_cons tag cls v kept bays
    refine ⟨?_, by rw [splitOrder_bays, bays], bays ▸ baysInOrder_nodup kept, ?_, ?_, fun p hp => ?_⟩
    · have targets : (splitOrder tag cls v kept).map Portion.target =
          (bayShare v kept b + remainder v kept) :: bs.map (bayShare v kept) := by
        rw [split, List.map_cons, List.map_map]
        rfl
      rw [targets, remainder]
      rw [bays] at le ⊢
      simp only [List.map_cons, List.sum_cons] at le ⊢
      omega
    · rw [split]
      intro p hp
      obtain ⟨c, -, rfl⟩ := List.mem_map.1 hp
      rfl
    · rw [split]
      intro p hp
      cases hp
      refine ⟨Nat.le_add_right _ _, Nat.add_le_add_left ?_ _⟩
      rw [remainder]
      omega
    · rw [mem_splitOrder tag cls v kept hp]
      exact ⟨rfl, rfl, rfl⟩

end Sys2Proof.Machine
end

section
/-! SUPPORT. The decode and the checks of a LIFT (Table 4-2, R63 to R69). -/

-- One proof after another, as in Laws: in parallel, the threads of so many outgrow the memory the check allows.
set_option Elab.async false

namespace Sys2Proof.Machine

open Sys2Proof

variable {s : State} {d : DistrictId}

/-! ## The decode (R66) -/

/-- The intake that a number with its status adds to the kept list (R66). -/
def State.keptOf (s : State) (z : Nat × IntakeStatus) : Option (IntakeId × BayId) :=
  if z.2 = .ok then (s.mapped z.1).map fun e => (e.1, e.2.bay) else none

theorem State.decodeIntakes_cons (kept : List (IntakeId × BayId)) (n : Nat) (rest : List Nat) :
    s.decodeIntakes d kept (n :: rest) =
      let x := s.laterStatus d kept n
      let later := s.decodeIntakes d (kept ++ (s.keptOf (n, x)).toList) rest
      (x :: later.1, later.2) := by
  rw [decodeIntakes]
  unfold keptOf
  generalize s.laterStatus d kept n = x
  cases x
  case ok => cases entry : s.mapped n <;> simp [entry]
  all_goals simp

theorem State.decodeIntakes_length : ∀ (kept : List (IntakeId × BayId)) (ns : List Nat),
    (s.decodeIntakes d kept ns).1.length = ns.length
  | _, [] => rfl
  | kept, n :: rest => by
    rw [decodeIntakes_cons]
    simp only [List.length_cons, decodeIntakes_length]

/-- The kept list holds the intakes with OK, in the order given. -/
theorem State.decodeIntakes_kept : ∀ (kept : List (IntakeId × BayId)) (ns : List Nat),
    (s.decodeIntakes d kept ns).2 = kept ++ (ns.zip (s.decodeIntakes d kept ns).1).filterMap s.keptOf
  | kept, [] => (List.append_nil kept).symm
  | kept, n :: rest => by
    rw [decodeIntakes_cons]
    simp only [List.zip_cons_cons]
    rw [decodeIntakes_kept _ rest, List.filterMap_cons, List.append_assoc]
    cases s.keptOf (n, s.laterStatus d kept n) <;> rfl

/-- The status of each intake is that of R66 given the intakes kept before it. -/
theorem State.decodeIntakes_status : ∀ (kept : List (IntakeId × BayId)) (ns : List Nat) (k y : Nat), ns[k]? = some y →
    (s.decodeIntakes d kept ns).1[k]? =
      some (s.laterStatus d (kept ++ ((ns.zip (s.decodeIntakes d kept ns).1).take k).filterMap s.keptOf) y)
  | _, [], _, _, h => by cases h
  | kept, n :: rest, 0, y, h => by
    cases h
    rw [decodeIntakes_cons]
    simp
  | kept, n :: rest, k + 1, y, h => by
    have later := decodeIntakes_status (kept ++ (s.keptOf (n, s.laterStatus d kept n)).toList) rest k y h
    rw [decodeIntakes_cons]
    simp only [List.zip_cons_cons, List.take_succ_cons, List.getElem?_cons_succ, later, List.filterMap_cons, List.append_assoc]
    cases s.keptOf (n, s.laterStatus d kept n) <;> rfl

/-- The entry of a number is that of the intake of this number. -/
theorem State.mapped_val {n : Nat} {e : IntakeId × MapEntry} (h : s.mapped n = some e) : e.1.val = n := by
  unfold mapped at h
  split at h
  · obtain ⟨m, -, rfl⟩ := Option.map_eq_some_iff.1 h
    rfl
  · cases h

/-- An intake is kept by an earlier place of the list exactly where its number stands there with OK. -/
theorem State.keptEarlier_iff {ns : List Nat} {sts : List IntakeStatus} {k y : Nat} {e : IntakeId × MapEntry}
    (mapped : s.mapped y = some e) :
    (((ns.zip sts).take k).filterMap s.keptOf).any (fun x => x.1 == e.1) = true ↔
      ∃ j, j < k ∧ ns[j]? = some y ∧ sts[j]? = some .ok := by
  have place (z : Nat × IntakeStatus) (j : Nat) : ((ns.zip sts).take k)[j]? = some z ↔
      j < k ∧ ns[j]? = some z.1 ∧ sts[j]? = some z.2 := by
    rw [List.getElem?_take]
    split
    · simp [List.getElem?_zip_eq_some, *]
    · simp [*]
  rw [List.any_eq_true]
  constructor
  · rintro ⟨x, member, same⟩
    obtain ⟨z, hz, keeps⟩ := List.mem_filterMap.1 member
    obtain ⟨j, at_j⟩ := List.getElem?_of_mem hz
    obtain ⟨before, number, status⟩ := (place z j).1 at_j
    unfold State.keptOf at keeps
    split at keeps
    · rename_i ok
      obtain ⟨e', mapped', rfl⟩ := Option.map_eq_some_iff.1 keeps
      have value : z.1 = y := by
        rw [← State.mapped_val mapped', ← State.mapped_val mapped]
        exact congrArg Fin.val (eq_of_beq same)
      exact ⟨j, before, value ▸ number, ok ▸ status⟩
    · cases keeps
  · rintro ⟨j, before, number, status⟩
    have at_j := (place (y, .ok) j).2 ⟨before, number, status⟩
    refine ⟨(e.1, e.2.bay), List.mem_filterMap.2 ⟨(y, .ok), List.mem_of_getElem? at_j, ?_⟩, by simp⟩
    simp [State.keptOf, mapped]

/-! ## The rows of Table 4-2 -/

/-- The body of a LIFT of at least five bytes, as read (Table 9-2). -/
theorem readLift_five (tag cls t1 t0 n : Byte) (rest : List Byte) :
    readLift (tag :: cls :: t1 :: t0 :: n :: rest) =
      some { tag := tag, classCode := cls, target := 256 * t1.toNat + t0.toNat, count := n.toNat,
             intakes := rest.map BitVec.toNat } := by
  simp [readLift, numberBE]

/-- A good form (R64) and its class. -/
theorem LiftBody.formClass_eq (l : LiftBody) :
    l.formClass =
      if 1 ≤ l.count ∧ l.count ≤ 8 ∧ l.intakes.length = l.count ∧ (l.classCode = 0 ∨ l.classCode = 1) then
        some (if l.classCode = 1 then .urgent else .routine)
      else none := by
  unfold formClass classOf
  by_cases zero : l.classCode = 0
  · simp [zero]
  · by_cases one : l.classCode = 1
    · simp [one]
    · rw [if_neg zero, if_neg one, ite_self, if_neg (by tauto)]

/-- What is known of an order that is accepted (R65, R67, R70): there is room, its tag is new, and its portions are a split. -/
theorem State.judgeIntakes_accepted {l : LiftBody} {cls : OrderClass} {o : Order} {ps : List Portion} {xs : List IntakeStatus}
    (h : s.judgeIntakes d l cls = .accepted o ps xs) :
    s.orders.districts[d].table.length + 1 ≤ Config.maxOrders
    ∧ s.orders.districts[d].queue.length + ps.length ≤ Config.maxPortions
    ∧ o.tag = l.tag ∧ o.bays = ps.map Portion.bay ∧ ∃ kept, ps = splitOrder l.tag cls l.target kept := by
  unfold judgeIntakes at h
  split at h
  · cases h
  · dsimp only at h
    split at h
    · cases h
    · rename_i full
      cases h
      exact ⟨by omega, by omega, rfl, rfl, _, rfl⟩

theorem State.judgeLift_accepted {body : List Byte} {o : Order} {ps : List Portion} {xs : List IntakeStatus}
    (h : s.judgeLift d body = .accepted o ps xs) :
    s.orders.districts[d].table.length + 1 ≤ Config.maxOrders
    ∧ s.orders.districts[d].queue.length + ps.length ≤ Config.maxPortions
    ∧ (∀ x ∈ s.orders.districts[d].table, x.tag ≠ o.tag) ∧ o.bays = ps.map Portion.bay
    ∧ ∃ cls v kept, ps = splitOrder o.tag cls v kept := by
  unfold judgeLift at h
  dsimp only at h
  split at h
  · cases h
  · split at h
    · cases h
    · split at h
      · cases h
      · split at h
        · cases h
        · split at h
          · cases h
          · split at h
            · cases h
            · rename_i fresh
              obtain ⟨orders, portions, tag, bays, kept, split⟩ := judgeIntakes_accepted h
              rw [← tag] at split
              refine ⟨orders, portions, fun x hx same => fresh ?_, bays, _, _, kept, split⟩
              exact List.any_eq_true.2 ⟨x, hx, beq_iff_eq.2 (same.trans tag)⟩

/-- The checks before the intakes (Table 4-2, rows 1 to 5). -/
theorem State.judgeLift_five (tag cls t1 t0 n : Byte) (rest : List Byte) :
    s.judgeLift d (tag :: cls :: t1 :: t0 :: n :: rest) =
      if s.settings.districts[d].enabled = false then .refused .portDisabled
      else if ¬(1 ≤ n.toNat ∧ n.toNat ≤ 8 ∧ rest.length = n.toNat ∧ (cls = 0 ∨ cls = 1)) then .refused .malformed
      else if 256 * t1.toNat + t0.toNat = 0 then .refused .volumeZero
      else if cls = 1 ∧ s.settings.districts[d].critical = false then .refused .classDenied
      else if (s.orders.districts[d].table.any fun o => o.tag == tag) = true then .refused .tagInUse
      else
        s.judgeIntakes d
          { tag := tag, classCode := cls, target := 256 * t1.toNat + t0.toNat, count := n.toNat,
            intakes := rest.map BitVec.toNat }
          (if cls = 1 then .urgent else .routine) := by
  have urgent : ((if cls = 1 then .urgent else .routine : OrderClass) = .urgent) = (cls = 1) := by
    split
    · simp [*]
    · rename_i routine; simp only [reduceCtorEq, routine]
  unfold judgeLift
  rw [readLift_five]
  dsimp only
  rw [LiftBody.formClass_eq]
  simp only [List.length_map]
  by_cases form : 1 ≤ n.toNat ∧ n.toNat ≤ 8 ∧ rest.length = n.toNat ∧ (cls = 0 ∨ cls = 1)
  · rw [if_pos form, if_neg (not_not.2 form)]
    simp only [urgent]
  · rw [if_neg form, if_pos form]

/-- Rows 6 to 9 of Table 4-2, and an order that passes them. -/
theorem State.judgeIntakes_table (l : LiftBody) (cls : OrderClass) :
    s.judgeIntakes d l cls =
      match s.mapped (l.intakes.headD 0) with
      | none => .refused .unsupported
      | some (i, m) =>
        if m.owners[d] = false then .refused .notOwner
        else if s.orders.faulted[i] = true then .refused .intakeFault
        else
          let kept := (s.decodeIntakes d [] l.intakes).2
          if 4 < s.orders.districts[d].table.length + 1
              ∨ 8 < s.orders.districts[d].queue.length + (baysInOrder kept).length then .refused .queueFull
          else
            .accepted { tag := l.tag, cls := cls, target := l.target, bays := baysInOrder kept }
              (splitOrder l.tag cls l.target kept) (s.decodeIntakes d [] l.intakes).1 := by
  unfold judgeIntakes firstRefusal
  cases s.mapped (l.intakes.headD 0) with
  | none => rfl
  | some e =>
    dsimp only
    by_cases owner : e.2.owners[d] = false
    · simp only [if_pos owner]
    · by_cases faulted : s.orders.faulted[e.1] = true
      · simp only [if_neg owner, if_pos faulted]
      · simp only [if_neg owner, if_neg faulted, splitOrder_bays, ← List.length_map Portion.bay]
        rfl

/-- Settles O25: the decode status by status, then the rows of Table 4-2 in the order in which the model asks them. -/
theorem liftChecksFollowTheTable : Obligations.LiftChecksFollowTheTable := by
  intro d tag cls t1 t0 n rest s
  extract_lets judged numbers entry first statuses kept x
  have lengths : statuses.length = numbers.length := s.decodeIntakes_length [] numbers
  have keeps : kept = (numbers.zip statuses).filterMap s.keptOf := s.decodeIntakes_kept [] numbers
  refine ⟨fun short few => ?_, lengths, fun k y hy => ?_, keeps, ?_⟩
  · have unread : readLift short = none := by
      match short, few with
      | [], _ | [_], _ | [_, _], _ | [_, _, _], _ | [_, _, _, _], _ => rfl
    unfold State.judgeLift
    rw [unread]
    dsimp only
    split
    · rename_i disabled; rw [disabled]; rfl
    · rename_i enabled; rw [eq_true_of_ne_false enabled]; rfl
  · have status := s.decodeIntakes_status (d := d) [] numbers k.val y hy
    rw [List.nil_append] at status
    refine status.trans (congrArg some ?_)
    show s.laterStatus d _ y = match s.mapped y with | none => _ | some (i, m) => _
    unfold State.laterStatus
    cases mapped : s.mapped y with
    | none => rfl
    | some e =>
      have earlier := State.keptEarlier_iff (ns := numbers) (sts := statuses) (k := k.val) mapped
      have same : (∃ j : Fin 8, j < k ∧ numbers[j.val]? = some y ∧ statuses[j.val]? = some .ok) ↔
          ∃ j, j < k.val ∧ numbers[j]? = some y ∧ statuses[j]? = some .ok :=
        ⟨fun ⟨j, h⟩ => ⟨j.val, h⟩, fun ⟨j, h⟩ => ⟨⟨j, by omega⟩, h⟩⟩
      dsimp only
      simp only [same, ← earlier]
      rfl
  · have table : judged = _ := State.judgeLift_five tag cls t1 t0 n rest
    split
    · rename_i row; rw [table, if_pos row]
    rename_i row1
    rw [if_neg row1] at table
    split
    · rename_i row; rw [table, if_pos row]
    rename_i row2
    rw [if_neg row2] at table
    split
    · rename_i row; rw [table, if_pos row]
    rename_i row3
    rw [if_neg row3] at table
    split
    · rename_i row; rw [table, if_pos row]
    rename_i row4
    rw [if_neg row4] at table
    have used : (x.table.any fun o => o.tag == tag) = true ↔ ∃ o ∈ x.table, o.tag = tag := by
      simp only [List.any_eq_true, beq_iff_eq]
    split
    · rename_i row; rw [table, if_pos (used.2 row)]
    rename_i row5
    rw [if_neg (mt used.1 row5), State.judgeIntakes_table] at table
    rw [table]
    show match s.mapped (numbers.headD 0) with | none => _ | some (i, m) => _
    cases s.mapped (numbers.headD 0) with
    | none => rfl
    | some e =>
      dsimp only
      split
      · rfl
      · split
        · rfl
        · split <;> rfl

end Sys2Proof.Machine
end

section
/-! SUPPORT. Orders, portions and transmit queues stay within their bounds (R70, R163, R171), and portions keep names of their own
(R67). -/

-- One proof after another, as in Laws: in parallel, the threads of so many outgrow the memory the check allows.
set_option Elab.async false

namespace Sys2Proof.Machine

open Sys2Proof Sys2Proof.Safety

variable {s t : State} {d : DistrictId}

/-! ## A transmit queue (R163, R171) -/

/-- `QueuesBounded`, of one port. -/
def Port.Bounded (q : Port) : Prop :=
  q.doneCount ≤ Config.maxDone ∧ q.replyCount ≤ Config.maxReplies ∧ q.queue.countP TxEntry.isReport ≤ 1
    ∧ (q.owes = true → q.reportInTransmission = true) ∧ (q.sending.isSome = true → q.queue ≠ [])

/-- The queue is the entry in transmission and those that wait. -/
theorem Port.queue_split (q : Port) : q.inTransmission ++ q.waiting = q.queue := by
  unfold inTransmission waiting
  split
  · exact List.take_append_drop _ _
  · rfl

theorem Port.bounded_of_sameLine {q r : Port} (same : SameLine q r) (h : q.Bounded) : r.Bounded := by
  obtain ⟨queue, sending, owes⟩ := same
  unfold Bounded doneCount replyCount reportInTransmission inTransmission at *
  rw [queue, sending, owes]
  exact h

/-- An entry that joins leaves the one in transmission (R163). -/
theorem Port.join_inTransmission {q : Port} (e : TxEntry) (h : q.sending.isSome = true → q.queue ≠ []) :
    (q.join e).inTransmission = q.inTransmission := by
  unfold inTransmission
  show (if q.sending.isSome then (q.queue ++ [e]).take 1 else []) = _
  split
  · obtain ⟨x, xs, queue⟩ := List.exists_cons_of_ne_nil (h ‹_›)
    rw [queue]
    rfl
  · rfl

/-- An entry may join where its class has a place (R163). -/
theorem Port.join_bounded {q : Port} {e : TxEntry} (done : e.isDone = true → q.doneCount < Config.maxDone)
    (reply : e.isReply = true → q.replyCount < Config.maxReplies)
    (report : e.isReport = true → q.queue.countP TxEntry.isReport = 0) (h : q.Bounded) : (q.join e).Bounded := by
  obtain ⟨dones, replies, reports, owes, sending⟩ := h
  have count (f : TxEntry → Bool) : (q.join e).queue.countP f = q.queue.countP f + if f e then 1 else 0 := by
    show (q.queue ++ [e]).countP f = _
    rw [List.countP_append, List.countP_singleton]
  refine ⟨?_, ?_, ?_, fun owed => ?_, fun _ => by simp [join]⟩
  · rw [doneCount, count]
    split
    · exact done ‹_›
    · exact dones
  · rw [replyCount, count]
    split
    · exact reply ‹_›
    · exact replies
  · rw [count]
    split
    · rw [report ‹_›]
    · exact reports
  · rw [reportInTransmission, join_inTransmission e sending]
    exact owes owed

/-- Where no STATUS REPORT waits and none is in transmission, the queue holds none. -/
theorem Port.no_report {q : Port} (waits : ¬q.reportWaits = true) (goes : ¬q.reportInTransmission = true) :
    q.queue.countP TxEntry.isReport = 0 := by
  rw [← queue_split, List.countP_append, List.countP_eq_zero.2, List.countP_eq_zero.2]
  · exact fun e he r => waits (List.any_eq_true.2 ⟨e, he, r⟩)
  · exact fun e he r => goes (List.any_eq_true.2 ⟨e, he, r⟩)

/-- A report that becomes owed is owed while one is in transmission (R171). -/
theorem Port.owing_bounded {q : Port} {pair : Option Pair} (goes : q.reportInTransmission = true) (h : q.Bounded) :
    Port.Bounded { q with owes := true, owedPair := pair } := by
  obtain ⟨dones, replies, reports, -, sending⟩ := h
  exact ⟨dones, replies, reports, fun _ => goes, sending⟩

theorem Port.askReport_bounded {q : Port} (h : q.Bounded) : q.askReport.Bounded := by
  unfold askReport
  split
  · exact h
  · split
    · exact owing_bounded ‹_› h
    · exact join_bounded (by simp [TxEntry.isDone]) (by simp [TxEntry.isReply]) (fun _ => no_report ‹_› ‹_›) h

/-- The mark of a pair changes no entry's class (R172). -/
theorem countP_mark {pair : Pair} (xs : List TxEntry) :
    (xs.map (TxEntry.mark pair)).countP TxEntry.isDone = xs.countP TxEntry.isDone
    ∧ (xs.map (TxEntry.mark pair)).countP TxEntry.isReply = xs.countP TxEntry.isReply
    ∧ (xs.map (TxEntry.mark pair)).countP TxEntry.isReport = xs.countP TxEntry.isReport := by
  have done : TxEntry.isDone ∘ TxEntry.mark pair = TxEntry.isDone := funext fun e => by cases e <;> rfl
  have reply : TxEntry.isReply ∘ TxEntry.mark pair = TxEntry.isReply := funext fun e => by cases e <;> rfl
  have report : TxEntry.isReport ∘ TxEntry.mark pair = TxEntry.isReport := funext fun e => by cases e <;> rfl
  simp only [List.countP_map, done, reply, report, and_self]

theorem Port.askQuery_bounded {q : Port} {pair : Pair} (h : q.Bounded) : (q.askQuery pair).Bounded := by
  unfold askQuery
  split
  · obtain ⟨dones, replies, reports, owes, sending⟩ := h
    obtain ⟨markedDone, markedReply, markedReport⟩ := countP_mark (pair := pair) q.waiting
    have head : ({ q with queue := q.inTransmission ++ q.waiting.map (TxEntry.mark pair) } : Port).inTransmission =
        q.inTransmission := by
      unfold inTransmission
      dsimp only
      split
      · obtain ⟨x, xs, queue⟩ := List.exists_cons_of_ne_nil (sending ‹_›)
        rw [queue]
        rfl
      · rfl
    unfold Bounded doneCount replyCount reportInTransmission
    rw [head]
    dsimp only
    rw [List.countP_append, List.countP_append, List.countP_append, markedDone, markedReply, markedReport,
      ← List.countP_append, ← List.countP_append, ← List.countP_append, queue_split]
    refine ⟨dones, replies, reports, owes, fun goes empty => sending goes ?_⟩
    rw [← queue_split]
    simpa using empty
  · split
    · exact owing_bounded ‹_› h
    · exact join_bounded (by simp [TxEntry.isDone]) (by simp [TxEntry.isReply]) (fun _ => no_report ‹_› ‹_›) h

/-- What is in transmission is the head of the queue. -/
theorem Port.sending_split {q : Port} (goes : q.sending.isSome = true) (h : q.Bounded) :
    ∃ e rest, q.queue = e :: rest ∧ q.inTransmission = [e] := by
  obtain ⟨e, rest, queue⟩ := List.exists_cons_of_ne_nil (h.2.2.2.2 goes)
  exact ⟨e, rest, queue, by rw [inTransmission, if_pos goes, queue]; rfl⟩

/-- The end of a transmission frees the place of its entry; a report owed takes that of the report that has left (R171). -/
theorem Port.endSending_bounded {q : Port} (goes : q.sending.isSome = true) (h : q.Bounded) :
    q.endSending.Bounded ∧ (q.inTransmission.any TxEntry.isDone = true → q.endSending.doneCount < Config.maxDone) := by
  obtain ⟨e, rest, queue, head⟩ := sending_split goes h
  obtain ⟨dones, replies, reports, owes, -⟩ := h
  unfold doneCount replyCount at *
  rw [queue, List.countP_cons] at dones replies reports
  have left : rest.countP TxEntry.isDone ≤ Config.maxDone ∧ rest.countP TxEntry.isReply ≤ Config.maxReplies
      ∧ rest.countP TxEntry.isReport ≤ 1 := ⟨by omega, by omega, by omega⟩
  have freed : q.inTransmission.any TxEntry.isDone = true → rest.countP TxEntry.isDone < Config.maxDone := fun done => by
    rw [head] at done
    simp only [List.any_cons, List.any_nil, Bool.or_false] at done
    rw [done] at dones
    simpa using dones
  have ended : Port.Bounded { q with queue := rest, sending := none, owes := false, owedPair := none } :=
    ⟨left.1, left.2.1, left.2.2, by simp, by simp⟩
  unfold endSending
  split
  · rename_i owed
    have report : e.isReport = true := by
      have goes := owes owed
      rw [reportInTransmission, head] at goes
      simpa using goes
    rw [queue]
    refine ⟨join_bounded (q := { q with queue := rest, sending := none, owes := false, owedPair := none })
      (e := .report q.owedPair) (by simp [TxEntry.isDone]) (by simp [TxEntry.isReply]) (fun _ => ?_) ended, fun done => ?_⟩
    · rw [report] at reports
      simpa using reports
    · rw [head] at done
      cases e <;> simp [TxEntry.isReport, TxEntry.isDone] at report done
  · rename_i quits
    rw [queue]
    exact ⟨⟨left.1, left.2.1, left.2.2, fun owed => absurd owed quits, by simp⟩, freed⟩

/-- Step 1 of R165 keeps the entry in transmission alone. -/
theorem Port.emptyWaiting_inTransmission (q : Port) : q.emptyWaiting.inTransmission = q.inTransmission := by
  unfold emptyWaiting inTransmission
  dsimp only
  split
  · rw [List.take_take]; rfl
  · rfl

theorem Port.emptyWaiting_bounded {q : Port} (h : q.Bounded) : q.emptyWaiting.Bounded := by
  have fewer (f : TxEntry → Bool) : q.emptyWaiting.queue.countP f ≤ q.queue.countP f := by
    rw [← q.queue_split, List.countP_append]
    exact Nat.le_add_right _ _
  refine ⟨(fewer _).trans h.1, (fewer _).trans h.2.1, (fewer _).trans h.2.2.1, ?_, fun goes => ?_⟩
  · rw [reportInTransmission, emptyWaiting_inTransmission]
    exact h.2.2.2.1
  · obtain ⟨e, rest, -, head⟩ := sending_split (q := q) goes h
    show q.inTransmission ≠ []
    rw [head]
    exact List.cons_ne_nil _ _

/-! ## The orders of a district (R70) -/

/-- `QueuesBounded`, of one district's orders. -/
def DistrictOrders.Bounded (x : DistrictOrders) : Prop :=
  x.table.length ≤ Config.maxOrders ∧ x.queue.length ≤ Config.maxPortions

theorem queuesBounded_iff :
    QueuesBounded s ↔ ∀ d : DistrictId, s.orders.districts[d].Bounded ∧ s.ports[d].Bounded := by
  simp only [QueuesBounded, DistrictOrders.Bounded, Port.Bounded, and_assoc]

theorem DistrictOrders.remove_bounded {x : DistrictOrders} {tag : Byte} (h : x.Bounded) : (x.remove tag).Bounded :=
  ⟨(List.length_filter_le _ _).trans h.1, (List.length_filter_le _ _).trans h.2⟩

theorem queuesBounded_congr (orders : t.orders.districts = s.orders.districts) (ports : t.ports = s.ports)
    (h : QueuesBounded s) : QueuesBounded t := by
  unfold QueuesBounded
  rw [orders, ports]
  exact h

theorem queuesBounded_of_touches {bs : List Block} (touched : OnlyTouches bs s t) (orders : Block.orders ∉ bs := by decide)
    (ports : Block.ports ∉ bs := by decide) (h : QueuesBounded s) : QueuesBounded t :=
  queuesBounded_congr (congrArg OrderUnit.districts (touched.same .orders orders)) (touched.same .ports ports) h

theorem State.setPort_bounded {x : Port} (bounded : s.ports[d].Bounded → x.Bounded) (h : QueuesBounded s) :
    QueuesBounded (s.setPort d x) := by
  rw [queuesBounded_iff] at *
  intro e
  rw [setPort_ports, set_get]
  split
  · subst e; exact ⟨(h d).1, bounded (h d).2⟩
  · exact h e

theorem State.setOrders_bounded {x : DistrictOrders} (bounded : s.orders.districts[d].Bounded → x.Bounded) (h : QueuesBounded s) :
    QueuesBounded (s.setOrders d x) := by
  rw [queuesBounded_iff] at *
  intro e
  rw [setOrders_districts]
  split
  · subst e; exact ⟨bounded (h d).1, (h d).2⟩
  · exact h e

theorem State.queueDone_bounded {f : DoneFrame} (place : s.ports[d].doneCount < Config.maxDone) (h : QueuesBounded s) :
    QueuesBounded (s.queueDone d f) :=
  setPort_bounded (Port.join_bounded (fun _ => place) (by simp [TxEntry.isReply]) (by simp [TxEntry.isReport])) h

theorem State.testOrder_bounded {o : Order} (h : QueuesBounded s) : QueuesBounded (s.testOrder d o) := by
  unfold testOrder endOrder
  dsimp only
  split
  · split
    · exact queueDone_bounded ‹_› (setOrders_bounded DistrictOrders.remove_bounded h)
    · exact setOrders_bounded (fun b => b) h
  · exact h

theorem State.afterSending_bounded (goes : s.ports[d].sending.isSome = true) (h : QueuesBounded s) :
    QueuesBounded (s.afterSending d) := by
  obtain ⟨bounded, freed⟩ := Port.endSending_bounded goes ((queuesBounded_iff.1 h) d).2
  have ended : QueuesBounded (s.setPort d s.ports[d].endSending) := setPort_bounded (fun _ => bounded) h
  unfold afterSending
  dsimp only
  split
  · rename_i done
    unfold placeFreed
    dsimp only
    split
    · refine queueDone_bounded ?_ (setOrders_bounded (fun b => DistrictOrders.remove_bounded b) ended)
      rw [setOrders_ports, setPort_self]
      exact freed done
    · exact ended
  · exact ended

theorem queuesBounded_steady : Steady QueuesBounded where
  quiet touched := queuesBounded_of_touches touched
  reset _ := by
    show QueuesBounded State.reset
    unfold QueuesBounded
    decide
  counted {s n} h := by
    rw [queuesBounded_iff] at *
    intro d
    rw [State.countTimers_port]
    exact ⟨(h d).1, Port.bounded_of_sameLine ⟨rfl, rfl, rfl⟩ (h d).2⟩
  imageTaken {s source i x} h := by
    rw [queuesBounded_iff] at *
    intro d
    have port : (s.takeImage source i x).ports[d] = s.ports[d].takeReportSettings x.settings.districts[d] := by
      simp [State.takeImage]
    rw [port]
    exact ⟨(h d).1, Port.bounded_of_sameLine ⟨rfl, rfl, rfl⟩ (h d).2⟩
  gatesTimed := queuesBounded_of_touches State.withGates_touches
  line same := State.setPort_bounded (Port.bounded_of_sameLine same)
  asked := State.setPort_bounded Port.askReport_bounded
  queried := State.setPort_bounded Port.askQuery_bounded
  answered room := State.setPort_bounded
    (Port.join_bounded (by simp [TxEntry.isDone]) (fun _ => room) (by simp [TxEntry.isReport]))
  sending {s d e} quiet waits := State.setPort_bounded fun b => by
    obtain ⟨dones, replies, reports, owes, -⟩ := b
    refine ⟨dones, replies, reports, fun owed => ?_, fun _ => waits⟩
    have goes := owes owed
    rw [Port.reportInTransmission, Port.inTransmission, if_neg (by rw [quiet]; simp)] at goes
    cases goes
  sent := State.afterSending_bounded
  emptied := State.setPort_bounded Port.emptyWaiting_bounded
  restored := State.setPort_bounded fun ⟨dones, replies, reports, _, sending⟩ =>
    ⟨dones, replies, reports, fun owed => (by cases owed), sending⟩
  moves _ _ _ := queuesBounded_of_touches State.setGate_touches
  jams := queuesBounded_congr rfl rfl
  clears {s i} h := queuesBounded_congr (s := s.startClosing i) rfl rfl (queuesBounded_of_touches State.startClosing_touches (h := h))
  relabelled _ := State.setOrders_bounded fun ⟨orders, portions⟩ => ⟨orders, by simpa using portions⟩
  tested := State.testOrder_bounded
  entered accepted := by
    obtain ⟨orders, portions, -⟩ := State.judgeLift_accepted accepted
    exact State.setOrders_bounded fun _ => ⟨by simpa using orders, by simpa using portions⟩
  cancelled := State.setOrders_bounded fun _ => ⟨Nat.zero_le _, Nat.zero_le _⟩

/-! ## The names of portions (R67) -/

/-- `PortionsNamed`, of one district's orders. -/
def DistrictOrders.Named (x : DistrictOrders) : Prop :=
  (x.table.map Order.tag).Nodup ∧ (∀ p ∈ x.queue, ∃ o ∈ x.table, o.tag = p.tag ∧ p.bay ∈ o.bays)
    ∧ x.queue.Pairwise fun p q => ¬(p.tag = q.tag ∧ p.bay = q.bay)

theorem portionsNamed_congr (orders : t.orders.districts = s.orders.districts) (h : PortionsNamed s) : PortionsNamed t := by
  unfold PortionsNamed
  rw [orders]
  exact h

theorem portionsNamed_of_touches {bs : List Block} (touched : OnlyTouches bs s t) (orders : Block.orders ∉ bs := by decide)
    (h : PortionsNamed s) : PortionsNamed t :=
  portionsNamed_congr (congrArg OrderUnit.districts (touched.same .orders orders)) h

theorem State.setOrders_named {x : DistrictOrders} (named : s.orders.districts[d].Named → x.Named) (h : PortionsNamed s) :
    PortionsNamed (s.setOrders d x) := by
  intro e
  rw [setOrders_districts]
  split
  · subst e; exact named (h d)
  · exact h e

theorem DistrictOrders.empty_named : DistrictOrders.Named { table := [], queue := [], finished := [] } :=
  ⟨List.nodup_nil, by simp, .nil⟩

/-- An order that leaves takes its portions with it and leaves the others theirs (R74, R76). -/
theorem DistrictOrders.remove_named {x : DistrictOrders} {tag : Byte} (h : x.Named) : (x.remove tag).Named := by
  obtain ⟨tags, owners, names⟩ := h
  refine ⟨tags.sublist (List.filter_sublist.map _), fun p hp => ?_, names.filter _⟩
  obtain ⟨member, other⟩ := List.mem_filter.1 hp
  obtain ⟨o, ho, same, bay⟩ := owners p member
  exact ⟨o, List.mem_filter.2 ⟨ho, by rw [same]; exact other⟩, same, bay⟩

/-- A change of portions that leaves their names leaves them named. -/
theorem DistrictOrders.relabel_named {x : DistrictOrders} {pick : Portion → Bool} {f : Portion → Portion} (keeps : KeepsNames f)
    (h : x.Named) : DistrictOrders.Named { x with queue := x.queue.map fun p => if pick p then f p else p } := by
  have same : KeepsNames fun p => if pick p then f p else p := fun p => by
    dsimp only
    split
    · exact keeps p
    · exact ⟨rfl, rfl⟩
  obtain ⟨tags, owners, names⟩ := h
  refine ⟨tags, fun q hq => ?_, List.pairwise_map.2 (names.imp fun apart clash => apart ?_)⟩
  · obtain ⟨p, hp, rfl⟩ := List.mem_map.1 hq
    obtain ⟨o, ho, tag, bay⟩ := owners p hp
    exact ⟨o, ho, tag.trans (same p).1.symm, by rw [(same p).2]; exact bay⟩
  · rwa [(same _).1, (same _).1, (same _).2, (same _).2] at clash

theorem splitOrder_tag {tag : Byte} {cls : OrderClass} {v : Nat} {kept : List (IntakeId × BayId)} {p : Portion}
    (h : p ∈ splitOrder tag cls v kept) : p.tag = tag := by
  rw [mem_splitOrder tag cls v kept h]
  rfl

/-- An order that enters brings a tag of its own, and portions on bays of their own (R65, R67). -/
theorem DistrictOrders.enter_named {x : DistrictOrders} {o : Order} {cls : OrderClass} {v : Nat} {kept : List (IntakeId × BayId)}
    (fresh : ∀ y ∈ x.table, y.tag ≠ o.tag) (bays : o.bays = (splitOrder o.tag cls v kept).map Portion.bay) (h : x.Named) :
    DistrictOrders.Named { x with table := x.table ++ [o], queue := x.queue ++ splitOrder o.tag cls v kept } := by
  obtain ⟨tags, owners, names⟩ := h
  refine ⟨?_, fun p hp => ?_, ?_⟩
  · rw [List.map_append, List.nodup_append]
    refine ⟨tags, List.nodup_singleton _, fun a old b new same => ?_⟩
    obtain ⟨y, hy, rfl⟩ := List.mem_map.1 old
    exact fresh y hy (same.trans (List.mem_singleton.1 new))
  · obtain old | new := List.mem_append.1 hp
    · obtain ⟨y, hy, own⟩ := owners p old
      exact ⟨y, List.mem_append_left _ hy, own⟩
    · exact ⟨o, by simp, (splitOrder_tag new).symm, by rw [bays]; exact List.mem_map_of_mem new⟩
  · rw [List.pairwise_append]
    refine ⟨names, ?_, fun p old q new clash => ?_⟩
    · have apart := baysInOrder_nodup kept
      rw [← splitOrder_bays o.tag cls v kept, List.nodup_iff_pairwise_ne, List.pairwise_map] at apart
      exact apart.imp fun differ clash => differ clash.2
    · obtain ⟨y, hy, tag, -⟩ := owners p old
      exact fresh y hy (tag.trans (clash.1.trans (splitOrder_tag new)))

theorem portionsNamed_steady : Steady PortionsNamed where
  quiet touched := portionsNamed_of_touches touched
  reset _ := by
    intro d
    have empty : State.reset.orders.districts[d] = { table := [], queue := [], finished := [] } := by simp [State.reset]
    show State.reset.orders.districts[d].Named
    rw [empty]
    exact DistrictOrders.empty_named
  counted := portionsNamed_of_touches State.countTimers_touches
  imageTaken := portionsNamed_of_touches State.takeImage_touches
  gatesTimed := portionsNamed_of_touches State.withGates_touches
  line _ := portionsNamed_of_touches State.setPort_touches
  asked := portionsNamed_of_touches State.setPort_touches
  queried := portionsNamed_of_touches State.setPort_touches
  answered _ := portionsNamed_of_touches State.queueReply_touches
  sending _ _ := portionsNamed_of_touches State.beginSending_touches
  sent {s d} _ h := by
    unfold State.afterSending State.placeFreed
    dsimp only
    split
    · split
      · exact portionsNamed_of_touches State.queueDone_touches
          (h := State.setOrders_named (fun n => DistrictOrders.remove_named n) h)
      · exact h
    · exact h
  emptied := portionsNamed_of_touches State.setPort_touches
  restored := portionsNamed_of_touches State.setPort_touches
  moves _ _ _ := portionsNamed_of_touches State.setGate_touches
  jams := portionsNamed_congr rfl
  clears {s i} h := portionsNamed_congr (s := s.startClosing i) rfl (portionsNamed_of_touches State.startClosing_touches (h := h))
  relabelled keeps := State.setOrders_named (DistrictOrders.relabel_named keeps)
  tested h := by
    unfold State.testOrder State.endOrder
    dsimp only
    split
    · split
      · exact portionsNamed_of_touches State.queueDone_touches (h := State.setOrders_named DistrictOrders.remove_named h)
      · exact State.setOrders_named (fun n => n) h
    · exact h
  entered accepted := by
    obtain ⟨-, -, fresh, bays, cls, v, kept, rfl⟩ := State.judgeLift_accepted accepted
    exact State.setOrders_named (DistrictOrders.enter_named fresh bays)
  cancelled := State.setOrders_named fun _ => DistrictOrders.empty_named

/-- Settles O55: each entry joins a queue only where its class has a place, and each order only with a tag of its own. -/
theorem stepKeepsQueuesBounded : Obligations.StepKeepsQueuesBounded :=
  ⟨queuesBounded_steady.stepKeeps, portionsNamed_steady.stepKeeps⟩

end Sys2Proof.Machine
end

section
/-! SUPPORT. Arbitration (R72, R87): what a candidate portion is, and what the winner has before the other contenders. -/

-- One proof after another, as in Laws: in parallel, the threads of so many outgrow the memory the check allows.
set_option Elab.async false

namespace Sys2Proof.Machine

open Sys2Proof

variable {s : State} {b : BayId} {d : DistrictId}

/-! ## Candidates (R72) -/

/-- The portion waits on the bay with this class. -/
def Portion.WaitsOn (b : BayId) (c : OrderClass) (p : Portion) : Prop := p.state = .pending ∧ p.bay = b ∧ p.cls = c

theorem Portion.waits_iff {p : Portion} {c : OrderClass} : p.waits c b = true ↔ p.WaitsOn b c := by
  simp only [waits, WaitsOn, Bool.and_eq_true, beq_iff_eq]
  exact ⟨fun ⟨⟨state, cls⟩, bay⟩ => ⟨state, bay, cls⟩, fun ⟨state, bay, cls⟩ => ⟨⟨state, cls⟩, bay⟩⟩

/-- The first portion of a queue that waits on the bay with a class, and those before it. -/
theorem find_waits {queue : List Portion} {c : OrderClass} {p : Portion} (h : (queue.find? fun q => q.waits c b) = some p) :
    p.WaitsOn b c ∧ ∃ before after, queue = before ++ p :: after ∧ ∀ q ∈ before, ¬q.WaitsOn b c := by
  obtain ⟨waits, before, after, cut, none⟩ := List.find?_eq_some_iff_append.1 h
  exact ⟨Portion.waits_iff.1 waits, before, after, cut, fun q hq w => by simpa [Portion.waits_iff.2 w] using none q hq⟩

theorem find_waits_none {queue : List Portion} {c : OrderClass} :
    (queue.find? fun q => q.waits c b) = none ↔ ∀ q ∈ queue, ¬q.WaitsOn b c := by
  simp only [List.find?_eq_none, Portion.waits_iff]

/-- A candidate is the first URGENT portion that waits, or with none of that class the first ROUTINE one (R72). -/
theorem State.candidate_cases {p : Portion} (h : s.candidate d b = some p) :
    (s.orders.districts[d].queue.find? fun q => q.waits .urgent b) = some p
    ∨ (∀ q ∈ s.orders.districts[d].queue, ¬q.WaitsOn b .urgent)
      ∧ (s.orders.districts[d].queue.find? fun q => q.waits .routine b) = some p := by
  rcases Option.or_eq_some_iff.1 h with urgent | ⟨none, routine⟩
  · exact .inl urgent
  · exact .inr ⟨find_waits_none.1 none, routine⟩

theorem State.candidate_waits {p : Portion} (h : s.candidate d b = some p) :
    p ∈ s.orders.districts[d].queue ∧ p.WaitsOn b p.cls := by
  have found : ∀ c, (s.orders.districts[d].queue.find? fun q => q.waits c b) = some p →
      p ∈ s.orders.districts[d].queue ∧ p.WaitsOn b p.cls := by
    intro c h
    obtain ⟨state, bay, -⟩ := (find_waits h).1
    exact ⟨List.mem_of_find?_eq_some h, state, bay, rfl⟩
  rcases candidate_cases h with h | ⟨-, h⟩
  · exact found _ h
  · exact found _ h

/-- A district has a candidate for a bay when one of its portions is PENDING there, and only then (R72). -/
theorem State.candidate_none :
    s.candidate d b = none ↔ ∀ q ∈ s.orders.districts[d].queue, ¬(q.state = .pending ∧ q.bay = b) := by
  rw [candidate, Option.or_eq_none_iff, find_waits_none, find_waits_none]
  constructor
  · rintro ⟨urgent, routine⟩ q hq ⟨state, bay⟩
    cases cls : q.cls
    · exact routine q hq ⟨state, bay, cls⟩
    · exact urgent q hq ⟨state, bay, cls⟩
  · intro none
    exact ⟨fun q hq ⟨state, bay, _⟩ => none q hq ⟨state, bay⟩, fun q hq ⟨state, bay, _⟩ => none q hq ⟨state, bay⟩⟩

/-! ## Contenders (R87) -/

theorem State.mem_contenders {w : Contender} :
    w ∈ s.contenders b ↔ s.candidate w.district b = some w.portion ∧ w.credit = s.accounts.districts[w.district].credit := by
  have every : ∀ p x : DistrictId, x ∈ afterPointer p := by decide
  simp only [contenders, List.mem_filterMap, Option.map_eq_some_iff]
  constructor
  · rintro ⟨x, -, p, h, rfl⟩
    exact ⟨h, rfl⟩
  · rintro ⟨h, credit⟩
    exact ⟨w.district, every _ _, w.portion, h, by rw [← credit]⟩

/-- The place of a contender in the rotation (R87). -/
def Contender.place (first : DistrictId) (w : Contender) : DistrictId := w.district - first

/-- The contenders stand in the order of the rotation. -/
theorem State.contenders_ordered :
    (s.contenders b).Pairwise fun x y => x.place (s.arbiters.bays[b].pointer + 1) < y.place (s.arbiters.bays[b].pointer + 1) := by
  have ordered : ∀ p : DistrictId, (afterPointer p).Pairwise fun x y => x - (p + 1) < y - (p + 1) := by decide
  refine List.pairwise_filterMap.2 ((ordered _).imp fun {x y} lt v hv w hw => ?_)
  obtain ⟨p, -, rfl⟩ := Option.map_eq_some_iff.1 hv
  obtain ⟨q, -, rfl⟩ := Option.map_eq_some_iff.1 hw
  exact lt

theorem mem_takePart {xs : List Contender} {x : Contender} :
    x ∈ takePart xs ↔ x ∈ xs ∧ (x.portion.cls = .urgent ∨ ∀ y ∈ xs, y.portion.cls ≠ .urgent) := by
  simp only [takePart, List.any_eq_true, beq_iff_eq]
  split
  · rename_i some
    obtain ⟨y, hy, urgent⟩ := some
    simp only [List.mem_filter, beq_iff_eq]
    exact and_congr_right fun _ => ⟨.inl, fun h => h.resolve_right fun none => none y hy urgent⟩
  · rename_i none
    exact ⟨fun h => ⟨h, .inr fun y hy urgent => none ⟨y, hy, urgent⟩⟩, And.left⟩

theorem takePart_sublist (xs : List Contender) : List.Sublist (takePart xs) xs := by
  unfold takePart
  split
  · exact List.filter_sublist
  · exact List.Sublist.refl xs

theorem takePart_eq_nil {xs : List Contender} : takePart xs = [] ↔ xs = [] := by
  refine ⟨fun h => ?_, fun h => by subst h; rfl⟩
  by_contra some
  obtain ⟨x, hx⟩ := List.exists_mem_of_ne_nil xs some
  by_cases urgent : ∃ y ∈ xs, y.portion.cls = .urgent
  · obtain ⟨y, hy, cls⟩ := urgent
    exact List.not_mem_nil (h ▸ mem_takePart.2 ⟨hy, .inl cls⟩)
  · exact List.not_mem_nil (h ▸ mem_takePart.2 ⟨hx, .inr fun y hy cls => urgent ⟨y, hy, cls⟩⟩)

theorem bestOf_none {xs : List Contender} : bestOf xs = none ↔ xs = [] := by
  cases xs with
  | nil => exact ⟨fun _ => rfl, fun _ => rfl⟩
  | cons x rest =>
    simp only [bestOf]
    split
    · simp
    · split <;> simp

/-- Of equal credits the first of the list is chosen (R87). -/
theorem bestOf_first {first : DistrictId} {w : Contender} : ∀ {xs : List Contender},
    (xs.Pairwise fun x y => x.place first < y.place first) → bestOf xs = some w →
    ∀ x ∈ xs, x.credit = w.credit → w.place first ≤ x.place first
  | [], _, h => by cases h
  | y :: rest, ordered, h => by
    obtain ⟨before, ordered⟩ := List.pairwise_cons.1 ordered
    intro x hx credit
    simp only [bestOf] at h
    split at h
    · rename_i none
      cases h
      rw [bestOf_none.1 none] at hx
      rw [List.mem_singleton.1 hx]
    · rename_i z best
      split at h <;> cases h
      · rcases List.mem_cons.1 hx with rfl | hx
        · omega
        · exact bestOf_first ordered best x hx credit
      · rcases List.mem_cons.1 hx with rfl | hx
        · exact le_refl _
        · exact le_of_lt (before x hx)

/-! ## The winner (R87) -/

/-- An arbitration of the bay may have a winner. -/
def State.MayServe (s : State) (b : BayId) (v : Service) : Prop :=
  s.loader.station = .running ∧ s.accounts.exhausted = false
    ∧ (if (s.grantOf b).isSome then v ≠ .outOfService else v = .serviceable)

/-- The contender wins the bay from the queues and credits of `s`. -/
structure State.Wins (s : State) (b : BayId) (w : Contender) : Prop where
  candidate : s.candidate w.district b = some w.portion
  credit : w.credit = s.accounts.districts[w.district].credit
  urgent : ∀ x : DistrictId, ∀ p ∈ s.candidate x b, p.cls = .urgent → w.portion.cls = .urgent
  greatest : ∀ x : DistrictId, ∀ p ∈ s.candidate x b, (p.cls = .urgent ∨ w.portion.cls ≠ .urgent) →
    s.accounts.districts[x].credit ≤ w.credit
    ∧ (s.accounts.districts[x].credit = w.credit →
        w.district - (s.arbiters.bays[b].pointer + 1) ≤ x - (s.arbiters.bays[b].pointer + 1))

/-- What bars an arbitration is that one of the conditions fails (R87). -/
theorem State.barred_iff {v : Service} :
    (¬s.isRunning ∨ s.accounts.exhausted = true ∨ (if (s.grantOf b).isSome then v = .outOfService else v ≠ .serviceable))
      ↔ ¬s.MayServe b v := by
  unfold MayServe
  rw [not_and_or, not_and_or, Bool.not_eq_false]
  split
  · rw [not_not]
  · rfl

theorem State.winnerAt_eq {v : Service} (h : s.MayServe b v) : s.winnerAt b v = bestOf (takePart (s.contenders b)) :=
  if_neg (barred_iff.not_left.2 h)

theorem State.winnerAt_mayServe {v : Service} {w : Contender} (h : s.winnerAt b v = some w) : s.MayServe b v := by
  by_contra barred
  rw [winnerAt, if_pos (barred_iff.2 barred)] at h
  cases h

theorem State.winnerAt_wins {v : Service} {w : Contender} (h : s.winnerAt b v = some w) : s.Wins b w := by
  rw [winnerAt_eq (winnerAt_mayServe h)] at h
  obtain ⟨mem, greatest⟩ := bestOf_spec h
  have first := bestOf_first (contenders_ordered.sublist (takePart_sublist _)) h
  obtain ⟨contends, class_⟩ := mem_takePart.1 mem
  obtain ⟨candidate, credit⟩ := mem_contenders.1 contends
  have contender {x : DistrictId} {p : Portion} (hp : p ∈ s.candidate x b) :
      { district := x, portion := p, credit := s.accounts.districts[x].credit } ∈ s.contenders b := mem_contenders.2 ⟨hp, rfl⟩
  refine ⟨candidate, credit, fun x p hp urgent => ?_, fun x p hp part => ?_⟩
  · exact class_.resolve_right fun none => none _ (contender hp) urgent
  · have takes := mem_takePart.2 ⟨contender hp, part.imp id fun other => class_.resolve_left other⟩
    exact ⟨greatest _ takes, first _ takes⟩

theorem State.winnerAt_none {v : Service} (h : s.winnerAt b v = none) :
    ¬s.MayServe b v ∨ ∀ x : DistrictId, s.candidate x b = none := by
  by_cases may : s.MayServe b v
  · rw [winnerAt_eq may, bestOf_none, takePart_eq_nil] at h
    refine .inr fun x => Option.eq_none_iff_forall_ne_some.2 fun p hp => ?_
    have mem := mem_contenders (s := s) (b := b)
      (w := { district := x, portion := p, credit := s.accounts.districts[x].credit }) |>.2 ⟨hp, rfl⟩
    rw [h] at mem
    exact List.not_mem_nil mem
  · exact .inl may

end Sys2Proof.Machine

namespace Sys2Proof.Safety

open Sys2Proof Sys2Proof.Machine

/-- Settles O50: the contenders stand in the order of the rotation, and the first of greatest credit is taken. -/
theorem arbitrationPicksGreatestCredit : Obligations.ArbitrationPicksGreatestCredit := by
  unfold Obligations.ArbitrationPicksGreatestCredit
  intro s b
  refine ⟨fun d => ⟨fun p hp => ?_, State.candidate_none.1⟩, fun w hw => ?_, State.winnerAt_none⟩
  · rcases State.candidate_cases hp with urgent | ⟨none, routine⟩
    · obtain ⟨⟨state, bay, cls⟩, before, after, cut, first⟩ := find_waits urgent
      rw [cls]
      exact ⟨⟨state, bay, cls⟩, ⟨before, after, cut, first⟩, fun c => nomatch c⟩
    · obtain ⟨⟨state, bay, cls⟩, before, after, cut, first⟩ := find_waits routine
      rw [cls]
      exact ⟨⟨state, bay, cls⟩, ⟨before, after, cut, first⟩, fun _ => none⟩
  · obtain ⟨candidate, credit, urgent, greatest⟩ := State.winnerAt_wins hw
    exact ⟨State.winnerAt_mayServe hw, candidate, credit, urgent, greatest⟩

/-! ## The end of a transmission (R76, R164, R171) -/

theorem exec_transmitEnd {s : State} {d : DistrictId} (goes : s.ports[d].sending.isSome = true) :
    exec (.transmitEnd d) s = .next (s.afterSending d) :=
  congrArg _ (if_pos goes)

/-- The port after the last byte of the head of its queue. -/
theorem endSending_eq {q : Port} {e : TxEntry} {rest : List TxEntry} (queue : q.queue = e :: rest) :
    q.endSending =
      { q with
        queue := rest ++ (if q.owes then [.report q.owedPair] else []), sending := none, owes := false,
        owedPair := if q.owes then none else q.owedPair } := by
  cases owes : q.owes <;> simp [Port.endSending, owes, queue]

theorem placeFreed_nothing {s : State} {d : DistrictId} (h : s.orders.districts[d].finished = []) : s.placeFreed d = s := by
  unfold State.placeFreed
  dsimp only
  rw [h]

theorem placeFreed_finished {s : State} {d : DistrictId} {f : DoneFrame} {more : List DoneFrame}
    (h : s.orders.districts[d].finished = f :: more) :
    s.placeFreed d = (s.setOrders d { s.orders.districts[d].remove f.tag with finished := more }).queueDone d f := by
  unfold State.placeFreed
  dsimp only
  rw [h]

theorem setOrders_queueDone {s : State} {d : DistrictId} {x : DistrictOrders} {f : DoneFrame} :
    ((s.setOrders d x).queueDone d f).orders.districts[d] = x :=
  State.setOrders_districts.trans (if_pos rfl)

/-- Nothing of an order is left when it has been removed (R74, R76). -/
theorem remove_leaves_none (x : DistrictOrders) (tag : Byte) :
    (∀ o ∈ (x.remove tag).table, o.tag ≠ tag) ∧ ∀ p ∈ (x.remove tag).queue, p.tag ≠ tag := by
  constructor
  · intro o ho
    simpa using (List.mem_filter.1 ho).2
  · intro p hp
    simpa using (List.mem_filter.1 hp).2

/-- Settles O34, by whether the entry is an ORDER DONE and a FINISHED order waits. -/
theorem transmitEndFreesThePlace : Obligations.TransmitEndFreesThePlace := by
  unfold Obligations.TransmitEndFreesThePlace
  intro d e rest s queue goes
  refine ⟨_, exec_transmitEnd goes, ?_⟩
  have head : s.ports[d].inTransmission.any TxEntry.isDone = e.isDone := by
    rw [Port.inTransmission, if_pos goes, queue]
    simp
  have ended := endSending_eq queue
  have sent : OnlyTouches [.ports] s (s.setPort d s.ports[d].endSending) := State.setPort_touches
  unfold State.afterSending
  dsimp only
  rw [head]
  cases done : e.isDone
  · simp only [Bool.false_eq_true, if_false, List.append_nil]
    exact ⟨sent.mono, State.setPort_others, State.setPort_self.trans ended, fun _ => rfl, fun _ _ no => nomatch no⟩
  · simp only [if_true]
    cases finished : s.orders.districts[d].finished with
    | nil =>
      rw [placeFreed_nothing (s := s.setPort d s.ports[d].endSending) finished]
      refine ⟨sent.mono, State.setPort_others, ?_, fun _ => rfl, fun _ _ _ no => nomatch no⟩
      rw [State.setPort_self, ended, List.head?_nil]
      simp
    | cons f more =>
      have touched : OnlyTouches [.orders, .ports] s ((s.setPort d s.ports[d].endSending).placeFreed d) :=
        sent.andThen State.placeFreed_touches
      rw [placeFreed_finished (s := s.setPort d s.ports[d].endSending) finished] at touched ⊢
      refine ⟨touched, ?_, ?_, ?_, ?_⟩
      · intro x other
        exact (State.setPort_others x other).trans (State.setPort_others x other)
      · unfold State.queueDone
        rw [State.setPort_self]
        show (s.setPort d s.ports[d].endSending).ports[d].join _ = _
        rw [State.setPort_self, ended]
        simp [Port.join]
      · rintro (no | no) <;> cases no
      · intro f' more' _ same
        cases same
        rw [setOrders_queueDone]
        exact ⟨rfl, remove_leaves_none _ _⟩

end Sys2Proof.Safety
end

section
/-! SUPPORT. Frames that a port acts on (R157, R160, R161), and what lasts through the settling of a command: queued entries, ended
portions, orders that have left. -/

-- One proof after another, as in Laws: in parallel, the threads of so many outgrow the memory the check allows.
set_option Elab.async false

namespace Sys2Proof.Safety

open Sys2Proof Sys2Proof.Machine

variable {s : State} {d : DistrictId} {pair : Pair} {arrival : Arrival} {body : List Byte}

/-! ## Frames -/

theorem goodFrame_eq : s.goodFrame d pair = s.setPort d (heardOn s.ports[d] pair) := by
  cases pair <;>
  · unfold State.goodFrame State.setRx
    dsimp only
    rw [State.setPort_setPort, State.setPort_self]
    rfl

/-- A port that may act on a frame does so (R161). -/
theorem takeFrame_admitted {kind : Byte} {query : Bool} {act : State → State} (h : Admitted s d arrival body) :
    s.takeFrame d ⟨pair, arrival⟩ kind query body act = act (s.setPort d (heardOn s.ports[d] pair)) := by
  obtain ⟨running, received, short, room⟩ := h
  have heard : ¬(s.loader.station = .loading ∨ s.ports[d].sending.isSome = true ∧ arrival = .now) := by
    rintro (loading | ⟨sends, now⟩)
    · rw [running] at loading; cases loading
    · obtain quiet | earlier := received
      · rw [quiet] at sends; cases sends
      · rw [earlier] at now; cases now
  have count : (heardOn s.ports[d] pair).replyCount = s.ports[d].replyCount := by cases pair <;> rfl
  unfold State.takeFrame
  rw [if_neg heard, if_neg (Nat.not_lt.2 short), goodFrame_eq]
  dsimp only
  rw [State.setPort_self, count, if_neg (fun c => Nat.not_le.2 room c.2)]
  rw [show (s.setPort d (heardOn s.ports[d] pair)).loader.station = .running from running]

/-- A frame that is answered and has no other effect (R161). -/
theorem answerFrame_becomes {kind tag : Byte} {o : ReplyOutcome} :
    PortBecomes d s ((s.setPort d (heardOn s.ports[d] pair)).answerFrame d pair kind tag o [])
      ((heardOn s.ports[d] pair).join (replyOf pair kind tag o)) := by
  refine ⟨State.setPort_touches.andThen State.answerFrame_touches (bs := [.ports]), fun e other => ?_, ?_⟩
  · exact (State.setPort_others e other).trans (State.setPort_others e other)
  · unfold State.answerFrame State.queueReply
    rw [State.setPort_self, State.setPort_self]
    rfl

/-! ## What lasts -/

/-- `P` stands through every reaction to a command, and through ends of portions. -/
structure Lasts (May : ReportEvent → DistrictId → Prop) (P : State → Prop) : Prop where
  stands : Stands May P
  ends : ∀ {s es}, P s → P (s.endPortions es)

theorem Lasts.settle {May : ReportEvent → DistrictId → Prop} {P : State → Prop} (k : Lasts May P) {old : State} {x : Settling}
    (running : s.isRunning) (h : P s) : P (s.settle old x) :=
  k.stands.settle k.ends (by rw [running]; decide) h

/-- What lasts stands when grants have closed and the command has settled. -/
theorem Lasts.closedAndSettled {P : State → Prop} (k : Lasts (fun _ _ => True) P) {old : State} {xs : List Closing} {reset : Bool}
    (running : s.isRunning) (h : P s) : P ((s.closeGrants xs reset).settle old {}) := by
  refine k.settle ?_ (k.stands.closeGrants (fun _ _ => .inr trivial) h)
  rw [State.isRunning, State.closeGrants_touches.same .loader]
  exact running

theorem Lasts.and {May : ReportEvent → DistrictId → Prop} {P Q : State → Prop} (k : Lasts May P) (l : Lasts May Q) :
    Lasts May fun s => P s ∧ Q s where
  stands :=
    { moved := fun touched h => ⟨k.stands.moved touched h.1, l.stands.moved touched h.2⟩
      told := fun may h => ⟨k.stands.told may h.1, l.stands.told may h.2⟩
      opened := fun h => ⟨k.stands.opened h.1, l.stands.opened h.2⟩
      closed := fun h => ⟨k.stands.closed h.1, l.stands.closed h.2⟩
      freed := fun h => ⟨k.stands.freed h.1, l.stands.freed h.2⟩
      returned := fun h => ⟨k.stands.returned h.1, l.stands.returned h.2⟩
      granted := fun h won => ⟨k.stands.granted h.1 won, l.stands.granted h.2 won⟩
      fault := k.stands.fault
      unserved := k.stands.unserved
      holder := fun h => k.stands.holder h.1
      winner := fun h => k.stands.winner h.1 }
  ends h := ⟨k.ends h.1, l.ends h.2⟩

/-- Every port may be told of everything. -/
def Anyone : ReportEvent → DistrictId → Prop := fun _ _ => True

/-- A predicate that survives the end of single portions and the test of single orders survives `endPortions` (R74). -/
theorem endPortions_keeps {P : State → Prop} {es : List Ending}
    (ended : ∀ t : State, ∀ e : Ending, P t → P (t.setPortion e.district e.tag e.bay (.ended e.outcome)))
    (tested : ∀ (t : State) (d : DistrictId) (o : Order), o ∈ s.orders.districts[d].table → P t → P (t.testOrder d o))
    (h : P s) : P (s.endPortions es) :=
  each_keeps (fun d _ _ => each_keeps fun o ho t => tested t d o (List.mem_filter.1 ho).1) (each_keeps (fun e _ t => ended t e) h)

/-! ### Entries of a transmit queue -/

theorem askReport_queue {q : Port} {e : TxEntry} (h : e ∈ q.queue) : e ∈ q.askReport.queue := by
  unfold Port.askReport
  split
  · exact h
  · split
    · exact h
    · exact List.mem_append_left _ h

/-- What holds of a port after a write to one of the ports. -/
theorem setPort_port {Q : Port → Prop} {x : DistrictId} {q : Port} (now : x = d → Q q) (h : Q s.ports[d]) :
    Q (s.setPort x q).ports[d] := by
  rw [State.setPort_ports, set_get]
  split
  · exact now ‹_›
  · exact h

theorem reportTo_queue {x : DistrictId} {v : ReportEvent} {e : TxEntry} (h : e ∈ s.ports[d].queue) :
    e ∈ (s.reportTo x v).ports[d].queue := by
  unfold State.reportTo
  split
  · exact setPort_port (Q := fun q => e ∈ q.queue) (fun same => by subst same; exact askReport_queue h) h
  · exact h

theorem queueDone_queue {x : DistrictId} {f : DoneFrame} {e : TxEntry} (h : e ∈ s.ports[d].queue) :
    e ∈ (s.queueDone x f).ports[d].queue :=
  setPort_port (Q := fun q => e ∈ q.queue) (fun same => by subst same; exact List.mem_append_left _ h) h

theorem endOrder_queue {x : DistrictId} {o : Order} {e : TxEntry} (h : e ∈ s.ports[d].queue) :
    e ∈ (s.endOrder x o).ports[d].queue := by
  unfold State.endOrder
  dsimp only
  split
  · exact queueDone_queue h
  · exact h

theorem testOrder_queue {x : DistrictId} {o : Order} {e : TxEntry} (h : e ∈ s.ports[d].queue) :
    e ∈ (s.testOrder x o).ports[d].queue := by
  unfold State.testOrder
  dsimp only
  split
  · exact endOrder_queue h
  · exact h

/-- No reaction takes an entry from a transmit queue. -/
theorem queued_lasts {e : TxEntry} : Lasts Anyone fun s => e ∈ s.ports[d].queue where
  stands :=
    { moved := fun touched h => by rw [touched.same .ports]; exact h
      told := fun _ h => reportTo_queue h
      opened := fun h => by rw [State.openGate_touches.same .ports]; exact h
      closed := fun h => by rw [State.closeGate_touches.same .ports]; exact h
      freed := id
      returned := id
      granted := fun h _ => by
        rw [State.setPortion_touches.same .ports, State.installGrant_touches.same .ports]
        exact h
      fault := fun _ => trivial
      unserved := fun _ => trivial
      holder := fun _ _ => trivial
      winner := fun _ _ => trivial }
  ends := endPortions_keeps (P := fun s => e ∈ s.ports[d].queue)
    (fun _ _ h => by rw [State.setPortion_touches.same .ports]; exact h) fun _ _ _ _ => testOrder_queue

/-! ### Orders -/

/-- The parts that neither orders nor grants are of. -/
def notOrders : List Block :=
  [.pending, .second, .pins, .loader, .settings, .plans, .sequencer, .gauges, .meter, .accounts, .roster, .pumps, .reports, .gates,
    .ports, .river]

/-- The test of an order leaves the orders of a district as they are, or removes it, or appends its frame (R76). -/
theorem testOrder_districts {x : DistrictId} {o : Order} {D : DistrictOrders → Prop}
    (removed : x = d → D s.orders.districts[d] → D (s.orders.districts[d].remove o.tag))
    (finished : x = d → D s.orders.districts[d] → ∀ f,
      D { s.orders.districts[d] with finished := s.orders.districts[d].finished ++ [f] })
    (h : D s.orders.districts[d]) : D (s.testOrder x o).orders.districts[d] := by
  unfold State.testOrder State.endOrder
  dsimp only
  split
  · split
    · show D (State.setOrders _ _ _).orders.districts[d]
      rw [State.setOrders_districts]
      split
      · rename_i same
        have now := removed same h
        subst same
        exact now
      · exact h
    · rw [State.setOrders_districts]
      split
      · rename_i same
        have now := finished same h
        subst same
        exact now _
      · exact h
  · exact h

/-- `P` speaks of orders and grants alone, and survives their changes. -/
structure OrdersLast (P : State → Prop) : Prop where
  quiet : ∀ {s t}, OnlyTouches notOrders s t → P s → P t
  freed : ∀ {s b}, P s → P (s.setGrant b none)
  returned : ∀ {s d tag b}, P s → P (s.returnPortion d tag b)
  granted : ∀ {s b v w}, P s → s.winnerAt b v = some w →
    P ((s.installGrant b w).setPortion w.district w.portion.tag b .inService)
  ended : ∀ {s d tag b x}, P s → P (s.setPortion d tag b (.ended x))
  tested : ∀ {s d o}, P s → P (s.testOrder d o)

theorem OrdersLast.lasts {P : State → Prop} (k : OrdersLast P) : Lasts Anyone P where
  stands :=
    { moved := fun touched => k.quiet touched.mono
      told := fun _ => k.quiet State.reportTo_touches.mono
      opened := k.quiet State.openGate_touches.mono
      closed := k.quiet State.closeGate_touches.mono
      freed := k.freed
      returned := k.returned
      granted := k.granted
      fault := fun _ => trivial
      unserved := fun _ => trivial
      holder := fun _ _ => trivial
      winner := fun _ _ => trivial }
  ends := endPortions_keeps (fun _ _ => k.ended) fun _ _ _ _ => k.tested

/-- The frame of a FINISHED order waits on. -/
theorem finished_lasts {f : DoneFrame} : OrdersLast fun s => f ∈ s.orders.districts[d].finished where
  quiet touched h := by rw [touched.same .orders]; exact h
  freed := id
  returned h := by
    unfold State.returnPortion
    rw [State.mapPortions_districts]
    split <;> exact h
  granted {s b v w} h _ := by
    unfold State.setPortion
    rw [State.mapPortions_districts, State.installGrant_touches.same .orders]
    split <;> exact h
  ended h := by
    unfold State.setPortion
    rw [State.mapPortions_districts]
    split <;> exact h
  tested h := testOrder_districts (D := fun x => f ∈ x.finished) (fun _ h => h) (fun _ h _ => List.mem_append_left _ h) h

/-- No order of the district has the tag. -/
def NoOrder (d : DistrictId) (tag : Byte) (s : State) : Prop := ∀ o ∈ s.orders.districts[d].table, o.tag ≠ tag

theorem noOrder_lasts {tag : Byte} : OrdersLast (NoOrder d tag) where
  quiet touched h := by unfold NoOrder; rw [touched.same .orders]; exact h
  freed := id
  returned h := by
    unfold NoOrder State.returnPortion
    rw [State.mapPortions_districts]
    split <;> exact h
  granted {s b v w} h _ := by
    unfold NoOrder State.setPortion
    rw [State.mapPortions_districts, State.installGrant_touches.same .orders]
    split <;> exact h
  ended h := by
    unfold NoOrder State.setPortion
    rw [State.mapPortions_districts]
    split <;> exact h
  tested h := testOrder_districts (D := fun x => ∀ o ∈ x.table, o.tag ≠ tag)
    (fun _ h o ho => h o (List.mem_filter.1 ho).1) (fun _ h _ => h) h

/-! ### Ended portions -/

/-- Every portion of the district that the test picks is ENDED. -/
def AllEnded (pick : DistrictId → Portion → Prop) (s : State) : Prop :=
  ∀ d : DistrictId, ∀ p ∈ s.orders.districts[d].queue, pick d p → p.isEnded = true

/-- The test does not look at the state of a portion. -/
def BlindToState (pick : DistrictId → Portion → Prop) : Prop := ∀ d p x, pick d { p with state := x } → pick d p

variable {pick : DistrictId → Portion → Prop}

theorem allEnded_congr {t : State} (orders : t.orders = s.orders) (h : AllEnded pick s) : AllEnded pick t := by
  unfold AllEnded
  rw [orders]
  exact h

/-- A change of portions that leaves none picked open. -/
theorem allEnded_changed {x : DistrictId} {test : Portion → Bool} {f : Portion → Portion}
    (changed : ∀ p ∈ s.orders.districts[x].queue, test p = true → pick x (f p) → (f p).isEnded = true)
    (kept : ∀ d : DistrictId, ∀ p ∈ s.orders.districts[d].queue, (d = x → test p = false) → pick d p → p.isEnded = true) :
    AllEnded pick (s.mapPortions x test f) := by
  intro d p hp picked
  rw [State.mapPortions_districts] at hp
  split at hp
  · rename_i same
    subst same
    obtain ⟨q, hq, rfl⟩ := List.mem_map.1 hp
    split at picked
    · rename_i chosen
      rw [if_pos chosen]
      exact changed q hq chosen picked
    · rename_i other
      rw [if_neg other]
      exact kept x q hq (fun _ => Bool.not_eq_true _ ▸ other) picked
  · rename_i differ
    exact kept d p hp (fun same => absurd same.symm differ) picked

theorem allEnded_mapPortions {x : DistrictId} {test : Portion → Bool} {f : Portion → Portion}
    (changed : ∀ p ∈ s.orders.districts[x].queue, test p = true → pick x (f p) → (f p).isEnded = true) (h : AllEnded pick s) :
    AllEnded pick (s.mapPortions x test f) := allEnded_changed changed fun d p hp _ => h d p hp

theorem allEnded_ended {x : DistrictId} {tag : Byte} {b : BayId} {v : PortionOutcome} (h : AllEnded pick s) :
    AllEnded pick (s.setPortion x tag b (.ended v)) := allEnded_mapPortions (fun _ _ _ _ => rfl) h

theorem allEnded_returned {x : DistrictId} {tag : Byte} {b : BayId} (blind : BlindToState pick) (h : AllEnded pick s) :
    AllEnded pick (s.returnPortion x tag b) := by
  refine allEnded_mapPortions (fun p hp chosen picked => ?_) h
  have ended := h x p hp (blind x p _ picked)
  simp [ended] at chosen

/-- The portion of a winner is PENDING, so it is none of those that have ended (R72, R87). -/
theorem allEnded_granted {b : BayId} {v : Service} {w : Contender} (blind : BlindToState pick)
    (won : s.winnerAt b v = some w)
    (same : ∀ p ∈ s.orders.districts[w.district].queue, p.named w.portion.tag b = true → pick w.district p →
      pick w.district w.portion) (h : AllEnded pick s) :
    AllEnded pick ((s.installGrant b w).setPortion w.district w.portion.tag b .inService) := by
  have orders : (s.installGrant b w).orders = s.orders := State.installGrant_touches.same .orders
  obtain ⟨member, pending, -, -⟩ := State.candidate_waits (State.winnerAt_wins won).candidate
  refine allEnded_mapPortions (fun p hp chosen picked => ?_) (allEnded_congr orders h)
  rw [orders] at hp
  have ended := h w.district w.portion member (same p hp chosen (blind _ _ _ picked))
  simp [Portion.isEnded, pending] at ended

theorem allEnded_tested {x : DistrictId} {o : Order} (h : AllEnded pick s) : AllEnded pick (s.testOrder x o) :=
  fun d => testOrder_districts (D := fun y => ∀ p ∈ y.queue, pick d p → p.isEnded = true)
    (fun _ h p hp => h p (List.mem_filter.1 hp).1) (fun _ h _ => h) (h d)

/-! ### Portions that are over -/

/-- Some portions, by district, tag and bay (R67). -/
abbrev Names := DistrictId → Byte → BayId → Prop

/-- The portion is one of these. -/
def NamedBy (c : Names) : DistrictId → Portion → Prop := fun x p => c x p.tag p.bay

/-- All these portions have ended, and their grants stand in no bay but those of `bays` (R99). -/
def Over (c : Names) (bays : BayId → Prop) (s : State) : Prop :=
  AllEnded (NamedBy c) s ∧ ∀ b : BayId, ∀ g ∈ s.grantOf b, c g.district g.tag b → bays b

theorem namedBy_blind {c : Names} : BlindToState (NamedBy c) := fun _ _ _ h => h

theorem setBay_grantOf {b x : BayId} {y : Bay} : (s.setBay b y).grantOf x = if b = x then y.grant else s.grantOf x := by
  show (s.arbiters.bays.set b y)[x].grant = _
  rw [set_get]
  split <;> rfl

/-- A grant with its place among the standing grants for a number (R84). -/
def renumbered (s : State) (g : Grant) : Grant := { g with number := s.grantNumbers.countP fun n => decide (n ≤ g.number) }

theorem renumberGrants_grantOf {x : BayId} : s.renumberGrants.grantOf x = (s.grantOf x).map (renumbered s) := by
  simp only [State.renumberGrants, State.grantOf, State.withArbiters, Fin.getElem_fin, Vector.getElem_ofFn]
  rfl

/-- The grant is to the same portion, with the same volume and mark (R84). -/
def SameGrant (g h : Grant) : Prop :=
  h.district = g.district ∧ h.tag = g.tag ∧ h.volume = g.volume ∧ h.lifting = g.lifting

theorem SameGrant.eq {g h : Grant} (same : SameGrant g h) : h = { g with number := h.number } := by
  obtain ⟨district, tag, volume, lifting⟩ := same
  cases h
  cases district
  cases tag
  cases volume
  cases lifting
  rfl

/-- The grant that a winner takes (R88, R90). -/
def newGrant (s : State) (w : Contender) : Grant :=
  { district := w.district, tag := w.portion.tag, number := s.arbiters.counter, volume := 0, lifting := false }

/-- The grants after an arbitration: the winner's in its bay and the others in theirs, all renumbered when the counter is at its
bound (R84). -/
theorem installGrant_grants {b x : BayId} {w : Contender} :
    ∃ f : Grant → Grant, (∀ g, SameGrant g (f g)) ∧ (s.arbiters.counter < Config.wordBound → f = id)
      ∧ (s.installGrant b w).grantOf x = (if b = x then some (newGrant s w) else s.grantOf x).map f := by
  unfold State.installGrant
  dsimp only
  split
  · refine ⟨id, fun _ => ⟨rfl, rfl, rfl, rfl⟩, fun _ => rfl, ?_⟩
    rw [Option.map_id_fun, id]
    exact setBay_grantOf
  · rename_i full
    refine ⟨renumbered (s.setBay b { grant := some (newGrant s w), pointer := w.district }), fun _ => ⟨rfl, rfl, rfl, rfl⟩,
      fun room => absurd room full, ?_⟩
    rw [renumberGrants_grantOf, setBay_grantOf]
    rfl

theorem installGrant_grantOf {b x : BayId} {w : Contender} {g : Grant} (h : (s.installGrant b w).grantOf x = some g) :
    (x = b ∧ g.district = w.district ∧ g.tag = w.portion.tag) ∨ (x ≠ b ∧ ∃ g' ∈ s.grantOf x, SameGrant g' g) := by
  obtain ⟨f, same, -, grants⟩ := installGrant_grants (s := s) (b := b) (x := x) (w := w)
  rw [grants] at h
  obtain ⟨g', old, rfl⟩ := Option.map_eq_some_iff.1 h
  obtain ⟨district, tag, -⟩ := same g'
  split at old
  · cases old
    exact .inl ⟨Eq.symm ‹_›, district, tag⟩
  · exact .inr ⟨Ne.symm ‹_›, g', old, same g'⟩

/-- A bay that is freed holds none of them. -/
theorem over_freed {c : Names} {bays : BayId → Prop} {b : BayId} (h : Over c (fun x => x = b ∨ bays x) s) :
    Over c bays (s.setGrant b none) := by
  refine ⟨h.1, fun x g hg mine => ?_⟩
  rw [State.setGrant_grantOf] at hg
  split at hg
  · cases hg
  · rename_i other
    exact (h.2 x g hg mine).resolve_left (Ne.symm other)

/-- A bay that is granted holds none of them, of which none is PENDING. -/
theorem over_granted {c : Names} {bays : BayId → Prop} {b : BayId} {v : Service} {w : Contender}
    (won : s.winnerAt b v = some w) (h : Over c (fun x => x = b ∨ bays x) s) :
    Over c bays ((s.installGrant b w).setPortion w.district w.portion.tag b .inService) := by
  obtain ⟨ended, grants⟩ := h
  obtain ⟨member, pending, bay, -⟩ := State.candidate_waits (State.winnerAt_wins won).candidate
  refine ⟨allEnded_granted namedBy_blind won (fun p _ named picked => ?_) ended, fun x g hg mine => ?_⟩
  · simp only [Portion.named, Bool.and_eq_true, beq_iff_eq] at named
    unfold NamedBy at *
    rwa [bay, ← named.1, ← named.2]
  · obtain ⟨here, same, new⟩ | ⟨other, g', old, same, kept, -⟩ := installGrant_grantOf hg
    · rw [same, new, here, ← bay] at mine
      have gone := ended w.district w.portion member mine
      simp [Portion.isEnded, pending] at gone
    · rw [same, kept] at mine
      exact (grants x g' old mine).resolve_left other

theorem over_mono {c : Names} {bays bays' : BayId → Prop} (weaker : ∀ x, bays x → bays' x) (h : Over c bays s) :
    Over c bays' s := ⟨h.1, fun b g hg mine => weaker b (h.2 b g hg mine)⟩

theorem over_lasts {c : Names} {bays : BayId → Prop} : OrdersLast (Over c bays) where
  quiet {s t} touched h := ⟨allEnded_congr (touched.same .orders) h.1, by
    unfold State.grantOf
    rw [touched.same .arbiters]
    exact h.2⟩
  freed h := over_freed (over_mono (fun _ => .inr) h)
  returned h := ⟨allEnded_returned namedBy_blind h.1, h.2⟩
  granted h won := over_granted won (over_mono (fun _ => .inr) h)
  ended h := ⟨allEnded_ended h.1, h.2⟩
  tested h := ⟨allEnded_tested h.1, by
    unfold State.grantOf
    rw [State.testOrder_touches.same .arbiters]
    exact h.2⟩

/-- A close brings what its bay's freeing and its bay's next grant bring (R90, R91). -/
theorem Stands.closeGrant_to {May : ReportEvent → DistrictId → Prop} {Q : State → Prop} (k : Stands May Q) {b : BayId} {g : Grant}
    {xs : List IntakeId} {reset : Bool} (may : reset = true ∨ May .grantEnd g.district) (freed : Q (s.setGrant b none))
    (granted : ∀ w, s.winner b = some w →
      May .grantStart w.district ∧ Q ((s.installGrant b w).setPortion w.district w.portion.tag b .inService)) :
    Q (s.closeGrant b g xs reset) := by
  unfold State.closeGrant
  split
  · obtain ⟨start, given⟩ := granted _ ‹_›
    exact k.told start (k.reportEnd may (k.openGates (k.closeGates given)))
  · have stopped : Q ((s.setGrant b none).each (pumpsOf b) fun x p => (x.stopPump p).withdrawCall p) :=
      each_keeps (fun _ _ _ h => k.withdrawCall (k.stopPump h)) freed
    exact each_keeps (fun _ _ _ => k.selfClear) (k.reportEnd may (k.closeGates stopped))

/-- When their grants have been closed, portions that have ended hold no bay (R99, R100). -/
theorem closeGrants_over {c : Names} {reset : Bool} : ∀ {xs : List Closing} {s : State},
    Over c (fun b => b ∈ xs.map Closing.bay) s → Over c (fun _ => False) (s.closeGrants xs reset)
  | [], _, h => over_mono (fun _ hx => List.not_mem_nil hx) h
  | x :: xs, s, h => by
    have both : Over c (fun b => b = x.bay ∨ b ∈ xs.map Closing.bay) s := over_mono (fun _ hx => List.mem_cons.1 hx) h
    exact closeGrants_over (xs := xs) (over_lasts.lasts.stands.closeGrant_to (.inr trivial) (over_freed both) fun w won =>
      ⟨trivial, over_granted (v := s.service x.bay) won both⟩)

/-- The closings with a portion that the test picks hold every grant of such a portion. -/
theorem mem_grantsWith {test : DistrictId → Portion → Bool} {b : BayId} {g : Grant} {p : Portion} (grant : s.grantOf b = some g)
    (portion : s.portion g.district g.tag b = some p) (picked : test g.district p = true) :
    b ∈ (s.grantsWith test).map Closing.bay := by
  refine List.mem_map.2 ⟨{ bay := b, grant := g, intakes := p.intakes }, List.mem_filterMap.2 ⟨b, mem_allBays b, ?_⟩, rfl⟩
  rw [grant, Option.bind_some, portion, Option.bind_some, if_pos picked]

/-- A closing is of a grant that stands, to a portion that the test picks. -/
theorem of_mem_grantsWith {test : DistrictId → Portion → Bool} {x : Closing} (h : x ∈ s.grantsWith test) :
    s.grantOf x.bay = some x.grant ∧ ∃ p, s.portion x.grant.district x.grant.tag x.bay = some p
      ∧ test x.grant.district p = true ∧ x.intakes = p.intakes := by
  obtain ⟨b, -, found⟩ := List.mem_filterMap.1 h
  obtain ⟨g, grant, found⟩ := Option.bind_eq_some_iff.1 found
  obtain ⟨p, portion, found⟩ := Option.bind_eq_some_iff.1 found
  split at found
  · cases found
    exact ⟨grant, p, portion, ‹_›, rfl⟩
  · cases found

/-! ## The end of an order (R74, R76, R78) -/

/-- With a place for its frame an order leaves (R76). -/
theorem endOrder_leaves {o : Order} (room : s.ports[d].doneCount < Config.maxDone) :
    TxEntry.orderDone (composeDone o s.orders.districts[d].queue) ∈ (s.endOrder d o).ports[d].queue
    ∧ (s.endOrder d o).orders.districts[d] = s.orders.districts[d].remove o.tag := by
  unfold State.endOrder
  dsimp only
  rw [if_pos room]
  refine ⟨?_, setOrders_queueDone⟩
  unfold State.queueDone
  rw [State.setPort_self]
  exact List.mem_append_right _ (List.mem_singleton.2 rfl)

/-- With no place for its frame an order is FINISHED (R76). -/
theorem endOrder_finishes {o : Order} (full : Config.maxDone ≤ s.ports[d].doneCount) :
    composeDone o s.orders.districts[d].queue ∈ (s.endOrder d o).orders.districts[d].finished := by
  unfold State.endOrder
  dsimp only
  rw [if_neg (Nat.not_lt.2 full), State.setOrders_districts, if_pos rfl]
  exact List.mem_append_right _ (List.mem_singleton.2 rfl)

/-- A portion of a queue is found by its name. -/
theorem find_named {x : DistrictOrders} {p : Portion} (named : x.Named) (hp : p ∈ x.queue) :
    (x.queue.find? fun q => q.named p.tag p.bay) = some p := by
  obtain ⟨-, -, apart⟩ := named
  have self : p.named p.tag p.bay = true := by simp [Portion.named]
  obtain ⟨q, hq⟩ := Option.isSome_iff_exists.1
    (List.find?_isSome (p := fun q => q.named p.tag p.bay) |>.2 ⟨p, hp, self⟩)
  have same : q.named p.tag p.bay = true := List.find?_some (p := fun q : Portion => q.named p.tag p.bay) hq
  simp only [Portion.named, Bool.and_eq_true, beq_iff_eq] at same
  rw [hq]
  by_contra differ
  have symmetric : Std.Symm fun p q : Portion => ¬(p.tag = q.tag ∧ p.bay = q.bay) :=
    ⟨fun _ _ h c => h ⟨c.1.symm, c.2.symm⟩⟩
  exact apart.forall (List.mem_of_find?_eq_some hq) hp (fun e => differ (congrArg some e)) same

/-- The frame of an order carries the entry of each of its portions that has ended (R78). -/
theorem composeDone_portions {x : DistrictOrders} {o : Order} {p : Portion} {e : DonePortion} (named : x.Named)
    (ho : o ∈ x.table) (hp : p ∈ x.queue) (tag : p.tag = o.tag) (entry : p.doneEntry = some e) :
    e ∈ (composeDone o x.queue).portions := by
  obtain ⟨o', ho', own, bay⟩ := named.2.1 p hp
  have same : o' = o := List.inj_on_of_nodup_map named.1 ho' ho (own.trans tag)
  subst same
  refine List.mem_filterMap.2 ⟨p.bay, bay, ?_⟩
  rw [← tag, find_named named hp]
  exact entry

end Sys2Proof.Safety
end

section
/-! SUPPORT. WITHDRAW (R77, R78, R99). -/

-- One proof after another, as in Laws: in parallel, the threads of so many outgrow the memory the check allows.
set_option Elab.async false

namespace Sys2Proof.Safety

open Sys2Proof Sys2Proof.Machine

/-- The portions of the order of this tag of the district. -/
def OfOrder (d : DistrictId) (tag : Byte) : Names := fun x c _ => x = d ∧ c = tag

variable {s : State} {d : DistrictId} {tag : Byte}

/-- The portions of the district's order after its WITHDRAW, before its order is tested (R77). -/
def withdrawnState (s : State) (d : DistrictId) (tag : Byte) : State :=
  s.mapPortions d (withdrawn tag) fun p => { p with state := .ended .withdrawn }

/-- The frame of the withdrawn order (R78). -/
def withdrawnFrame (s : State) (d : DistrictId) (o : Order) : DoneFrame :=
  composeDone o (withdrawnState s d o.tag).orders.districts[d].queue

theorem withdrawnState_districts :
    (withdrawnState s d tag).orders.districts[d] =
      { s.orders.districts[d] with
        queue := s.orders.districts[d].queue.map fun p => if withdrawn tag p then { p with state := .ended .withdrawn } else p } :=
  State.mapPortions_districts.trans (if_pos rfl)

theorem withdrawnState_allEnded : AllEnded (NamedBy (OfOrder d tag)) (withdrawnState s d tag) := by
  refine allEnded_changed (fun _ _ _ _ => rfl) fun x p _ other picked => ?_
  have stands := other picked.1
  simpa [withdrawn, picked.2] using stands

/-- An OPEN order is in the table, and not FINISHED (R70). -/
theorem isOpen_order {x : DistrictOrders} (h : x.isOpen tag = true) :
    ∃ o, (x.table.find? fun o => o.tag == tag) = some o ∧ o ∈ x.table ∧ o.tag = tag ∧ x.isFinished tag = false := by
  simp only [DistrictOrders.isOpen, Bool.and_eq_true, Bool.not_eq_true', List.any_eq_true] at h
  obtain ⟨⟨o, ho, same⟩, fresh⟩ := h
  obtain ⟨o', found⟩ := Option.isSome_iff_exists.1 (List.find?_isSome (p := fun o : Order => o.tag == tag) |>.2 ⟨o, ho, same⟩)
  exact ⟨o', found, List.mem_of_find?_eq_some found, beq_iff_eq.1 (List.find?_some (p := fun o : Order => o.tag == tag) found), fresh⟩

/-- The test of a withdrawn order ends it (R74, R77). -/
theorem withdrawn_tested {o : Order} (found : (s.orders.districts[d].table.find? fun o => o.tag == tag) = some o)
    (own : o.tag = tag) (fresh : s.orders.districts[d].isFinished tag = false) :
    (withdrawnState s d tag).testTag d tag = (withdrawnState s d tag).endOrder d o := by
  have table : (withdrawnState s d tag).orders.districts[d].table = s.orders.districts[d].table := by
    rw [withdrawnState_districts]
  have notYet : (withdrawnState s d tag).orders.districts[d].isFinished tag = false := by
    rw [withdrawnState_districts]
    exact fresh
  have ended : (withdrawnState s d tag).orders.districts[d].allEnded tag = true := by
    simp only [DistrictOrders.allEnded, List.all_eq_true, Bool.or_eq_true, bne_iff_ne]
    intro p hp
    by_cases same : p.tag = tag
    · exact .inr (withdrawnState_allEnded d p hp ⟨rfl, same⟩)
    · exact .inl same
  unfold State.testTag
  rw [table, found]
  dsimp only
  unfold State.testOrder
  dsimp only
  rw [own, if_pos ⟨ended, notYet⟩]

/-- The order's frame says what R78 asks of each portion. -/
theorem withdrawnFrame_portions {o : Order} {p : Portion} (named : PortionsNamed s) (ho : o ∈ s.orders.districts[d].table)
    (hp : p ∈ s.orders.districts[d].queue) (own : p.tag = o.tag) :
    { bay := p.bay, target := p.target, lifted := p.lifted,
      outcome := match p.state with
        | .ended x => x
        | .pending | .inService => .withdrawn } ∈ (withdrawnFrame s d o).portions := by
  have kept : (withdrawnState s d o.tag).orders.districts[d].Named := by
    rw [withdrawnState_districts]
    exact DistrictOrders.relabel_named (fun _ => ⟨rfl, rfl⟩) (named d)
  have table : o ∈ (withdrawnState s d o.tag).orders.districts[d].table := by
    rw [withdrawnState_districts]
    exact ho
  have mem : (if withdrawn o.tag p then { p with state := .ended .withdrawn } else p)
      ∈ (withdrawnState s d o.tag).orders.districts[d].queue := by
    rw [withdrawnState_districts]
    exact List.mem_map_of_mem hp
  refine composeDone_portions kept table mem ?_ ?_
  · split <;> exact own
  · cases state : p.state <;> simp [withdrawn, own, Portion.isEnded, state, Portion.doneEntry]

theorem exec_withdraw {pair : Pair} {arrival : Arrival} {body : List Byte} (h : Admitted s d arrival body) :
    exec (.withdraw d ⟨pair, arrival⟩ body) s =
      .next ((s.setPort d (heardOn s.ports[d] pair)).actWithdraw d pair body) :=
  congrArg _ (takeFrame_admitted h)

/-! ## The order that is withdrawn -/

section
variable {old : State} {o : Order} (running : s.isRunning)
  (found : (s.orders.districts[d].table.find? fun o => o.tag == tag) = some o)
  (own : o.tag = tag) (fresh : s.orders.districts[d].isFinished tag = false)

theorem withdrawOrder_touches_settled (running : s.isRunning) : OnlyTouches settled s ((s.withdrawOrder d tag).settle old {}) := by
  have same : (s.withdrawOrder d tag).loader = s.loader := State.withdrawOrder_touches.same .loader
  refine State.withdrawOrder_touches.andThen (State.settle_touches_settled ?_)
  rw [same, running]
  decide

include running found own fresh

/-- What lasts and holds at the order's end stands when the WITHDRAW has settled. -/
theorem withdrawOrder_lasts {P : State → Prop} (k : Lasts Anyone P) (h : P ((withdrawnState s d tag).endOrder d o)) :
    P ((s.withdrawOrder d tag).settle old {}) := by
  rw [← withdrawn_tested found own fresh] at h
  refine k.closedAndSettled ?_ h
  rw [State.isRunning, State.testTag_touches.same .loader]
  exact running

theorem withdrawOrder_keeps {e : TxEntry} (h : e ∈ s.ports[d].queue) :
    e ∈ ((s.withdrawOrder d tag).settle old {}).ports[d].queue :=
  withdrawOrder_lasts (P := fun s => e ∈ s.ports[d].queue) running found own fresh queued_lasts (endOrder_queue h)

theorem withdrawOrder_ended : AllEnded (NamedBy (OfOrder d tag)) ((s.withdrawOrder d tag).settle old {}) := by
  refine (withdrawOrder_lasts (P := Over (OfOrder d tag) fun _ => True) running found own fresh
    (over_lasts (bays := fun _ => True)).lasts ⟨?_, fun _ _ _ _ => trivial⟩).1
  rw [← withdrawn_tested found own fresh, State.testTag]
  split
  · exact allEnded_tested withdrawnState_allEnded
  · exact withdrawnState_allEnded

/-- The order leaves, or is FINISHED (R76). -/
theorem withdrawOrder_leaves (room : s.ports[d].doneCount < 4) :
    NoOrder d tag ((s.withdrawOrder d tag).settle old {})
    ∧ TxEntry.orderDone (withdrawnFrame s d o) ∈ ((s.withdrawOrder d tag).settle old {}).ports[d].queue := by
  obtain ⟨queued, left⟩ := endOrder_leaves (s := withdrawnState s d tag) (o := o) room
  constructor
  · refine withdrawOrder_lasts running found own fresh noOrder_lasts.lasts ?_
    unfold NoOrder
    rw [left, own]
    exact (remove_leaves_none _ tag).1
  · refine withdrawOrder_lasts (P := fun s => _ ∈ s.ports[d].queue) running found own fresh queued_lasts ?_
    unfold withdrawnFrame
    rw [own]
    exact queued

theorem withdrawOrder_finishes (full : 4 ≤ s.ports[d].doneCount) :
    withdrawnFrame s d o ∈ ((s.withdrawOrder d tag).settle old {}).orders.districts[d].finished := by
  refine withdrawOrder_lasts (P := fun s => _ ∈ s.orders.districts[d].finished) running found own fresh finished_lasts.lasts ?_
  unfold withdrawnFrame
  rw [own]
  exact endOrder_finishes (s := withdrawnState s d tag) full

end

/-- No bay stays granted to the order, where its grants have open portions (R99). -/
theorem withdrawOrder_frees {old : State} (running : s.isRunning) (holds : ∀ b : BayId, ∀ g ∈ s.grantOf b, g.district = d → g.tag = tag →
      ∃ p ∈ s.portion d g.tag b, p.isEnded = false) :
    Over (OfOrder d tag) (fun _ => False) ((s.withdrawOrder d tag).settle old {}) := by
  have loader : (s.withdrawOrder d tag).loader = s.loader := State.withdrawOrder_touches.same .loader
  refine over_lasts.lasts.settle (by rw [State.isRunning, loader]; exact running) (closeGrants_over ?_)
  have tested : OnlyTouches orderParts s ((withdrawnState s d tag).testTag d tag) :=
    State.mapPortions_touches.andThen State.testTag_touches
  constructor
  · rw [State.testTag]
    split
    · exact allEnded_tested withdrawnState_allEnded
    · exact withdrawnState_allEnded
  · rintro b g hg ⟨district, tagged⟩
    have held : s.grantOf b = some g := by
      have same : ((withdrawnState s d tag).testTag d tag).grantOf b = s.grantOf b := by
        unfold State.grantOf
        rw [tested.same .arbiters]
      exact same.symm.trans hg
    obtain ⟨p, hp, stands⟩ := holds b g held district tagged
    have named := List.find?_some (p := fun p : Portion => p.named g.tag b) hp
    simp only [Portion.named, Bool.and_eq_true, beq_iff_eq] at named
    refine mem_grantsWith held (by rw [district]; exact hp) ?_
    simp [withdrawn, named.1, tagged, stands, district]

/-! ## The frame -/

theorem heardOn_done {q : Port} {pair : Pair} {e : TxEntry} (other : e.isDone = false) :
    ((heardOn q pair).join e).doneCount = q.doneCount := by
  have same : (heardOn q pair).queue = q.queue := by cases pair <;> rfl
  show ((heardOn q pair).queue ++ [e]).countP TxEntry.isDone = q.queue.countP TxEntry.isDone
  rw [same, List.countP_append, List.countP_singleton, other]
  simp

/-- Settles O28: the order is over before its grants are closed, and a winner's portion is PENDING, so nothing of it comes back. -/
theorem withdrawFrameEndsTheOrder : Obligations.WithdrawFrameEndsTheOrder := by
  unfold Obligations.WithdrawFrameEndsTheOrder
  intro d pair arrival body s admitted
  refine ⟨_, exec_withdraw admitted, ?_⟩
  obtain ⟨running, -⟩ := admitted
  have settings : (s.setPort d (heardOn s.ports[d] pair)).settings = s.settings := rfl
  have orders : (s.setPort d (heardOn s.ports[d] pair)).orders = s.orders := rfl
  unfold State.actWithdraw
  dsimp only
  rw [settings, orders]
  split
  · exact answerFrame_becomes
  · split
    · rename_i length
      split
      · exact absurd rfl length
      · exact answerFrame_becomes
    · rename_i length
      obtain ⟨tag, rfl⟩ := List.length_eq_one_iff.1 (not_not.1 length)
      dsimp only
      rw [List.headD_cons]
      split
      · rename_i shut
        rw [shut, if_neg Bool.false_ne_true]
        exact answerFrame_becomes
      · rename_i opened
        rw [Bool.not_eq_false] at opened
        rw [if_pos opened]
        obtain ⟨o, found, ho, own, fresh⟩ := isOpen_order opened
        have answered : OnlyTouches [.ports] s
            ((s.setPort d (heardOn s.ports[d] pair)).answerFrame d pair kindWithdraw tag .accepted []) :=
          answerFrame_becomes.1
        have done : ((s.setPort d (heardOn s.ports[d] pair)).answerFrame d pair kindWithdraw tag .accepted []).ports[d].doneCount =
            s.ports[d].doneCount := by
          rw [answerFrame_becomes.2.2]
          exact heardOn_done rfl
        have reply : replyOf pair kindWithdraw tag .accepted ∈
            ((s.setPort d (heardOn s.ports[d] pair)).answerFrame d pair kindWithdraw tag .accepted []).ports[d].queue := by
          rw [answerFrame_becomes.2.2]
          exact List.mem_append_right _ (List.mem_singleton.2 rfl)
        generalize ((s.setPort d (heardOn s.ports[d] pair)).answerFrame d pair kindWithdraw tag .accepted []) = u at *
        have orders : u.orders = s.orders := answered.same .orders
        have running : u.isRunning := by
          rw [State.isRunning, answered.same .loader]
          exact running
        have grants : ∀ b, u.grantOf b = s.grantOf b := fun b => by
          unfold State.grantOf
          rw [answered.same .arbiters]
        have portions : ∀ c b, u.portion d c b = s.portion d c b := fun c b => by
          unfold State.portion
          rw [orders]
        rw [← orders] at found fresh ho
        have named (h : PortionsNamed s) : PortionsNamed u := portionsNamed_of_touches answered (h := h)
        have whole (h : PortionsNamed s) (p : Portion) (hp : p ∈ s.orders.districts[d].queue) (own' : p.tag = tag) :=
          withdrawnFrame_portions (named h) ho (by rw [orders]; exact hp) (own'.trans own.symm)
        rw [← done]
        generalize s.setPort d (heardOn s.ports[d] pair) = old
        have leaves (room : u.ports[d].doneCount < 4) := withdrawOrder_leaves (old := old) running found own fresh room
        refine ⟨answered.mono.andThen (withdrawOrder_touches_settled running) (fun _ h => h) fun _ h => h,
          withdrawOrder_keeps running found own fresh reply,
          fun p hp tagged => withdrawOrder_ended running found own fresh d p hp ⟨rfl, tagged⟩,
          fun room => ⟨(leaves room).1, withdrawnFrame u d o, (leaves room).2, own⟩,
          fun h => ⟨fun room => ⟨withdrawnFrame u d o, (leaves room).2, own, whole h⟩,
          fun full => ⟨withdrawnFrame u d o, withdrawOrder_finishes running found own fresh full, own, whole h⟩,
          fun holds b g hg district tagged => ?_⟩⟩
        refine (withdrawOrder_frees running (fun b g hg => ?_)).2 b g hg ⟨district, tagged⟩
        rw [grants b] at hg
        rw [portions]
        exact holds b g hg

end Sys2Proof.Safety
end

section
/-! SUPPORT. Sound pumps (R126, R135, R136, R141): which moves of a pump can take a bay out of service (R85), and what the settling
of a command brings where only some bays can be lost. -/

-- One proof after another, as in Laws: in parallel, the threads of so many outgrow the memory the check allows.
set_option Elab.async false

namespace Sys2Proof.Machine

open Sys2Proof Sys2Proof.Safety

variable {s t : State} {p : PumpId} {b : BayId} {n : Nat}

/-! ## Pumps that keep a bay from being lost -/

/-- A pump in this state keeps its bay from going out of service (R85). -/
def PumpState.isUp (x : PumpState) : Bool := x.serves || x == .rundown

theorem mem_pumpsOf : ∀ p : PumpId, p ∈ pumpsOf (bayOf p) := by decide

/-- A bay with a pump up is out of service only for its gauge (R85). -/
theorem State.service_up (up : s.pumps[p].state.isUp = true) :
    s.service (bayOf p) = .outOfService ↔ s.gauges.records[gaugeOf (bayOf p)].condition = .failed := by
  have mem : p ∈ pumpsOf (bayOf p) := mem_pumpsOf p
  constructor
  · intro lost
    by_contra good
    rw [service, if_neg good] at lost
    split at lost
    · cases lost
    · rename_i none
      split at lost
      · cases lost
      · rename_i still
        simp only [PumpState.isUp, Bool.or_eq_true] at up
        obtain serves | down := up
        · exact none (List.any_eq_true.2 ⟨p, mem, serves⟩)
        · exact still (List.any_eq_true.2 ⟨p, mem, down⟩)
  · exact fun failed => service_lost (.inl failed)

/-- While the other pump of its bay is up, or where the bay is one that may be lost, a pump may move as it likes. -/
def FreeToMove (L : BayId → Prop) (p : PumpId) (s : State) : Prop :=
  L (bayOf p) ∨ ∃ q : PumpId, q ≠ p ∧ bayOf q = bayOf p ∧ s.pumps[q].state.isUp = true

theorem FreeToMove.of_others {L : BayId → Prop} (others : OtherPumpsSame p s t) (h : FreeToMove L p s) : FreeToMove L p t :=
  h.imp id fun ⟨q, other, bay, up⟩ => ⟨q, other, bay, by rw [others q other]; exact up⟩

/-- Of the reports since the `n`-th only those of bays of `L` bring a loss of service (R86). -/
def LostIn (L : BayId → Prop) (n : Nat) (s : State) : Prop :=
  n ≤ s.reports.length ∧ ∀ r ∈ s.reports.drop n, ∀ b, r.change = some (b, .outOfService) → L b

theorem LostIn.congr {L : BayId → Prop} (same : t.reports = s.reports) (h : LostIn L n s) : LostIn L n t := by
  unfold LostIn
  rw [same]
  exact h

/-- The report of a move (R124). -/
theorem State.moveTo_reports {x : PumpState} :
    ∃ r : PumpReport, (s.moveTo p x).reports = s.reports ++ [r] ∧ r.pump = p ∧ r.left = s.pumps[p].state ∧ r.entered = x
      ∧ r.before = s.service (bayOf p) ∧ r.after = (s.moveTo p x).service (bayOf p) := by
  have entered : (s.moveTo p x).pumps[p].state = x := by rw [moveTo_self]
  unfold moveTo at *
  dsimp only at *
  split at entered
  · rw [if_pos ‹_›]
    exact ⟨_, rfl, rfl, rfl, entered, rfl, service_congr rfl rfl⟩
  · rw [if_neg ‹_›]
    exact ⟨_, rfl, rfl, rfl, entered, rfl, service_congr rfl rfl⟩

/-- A move that ends in a state that is up, or of a pump free to move, loses no bay but those of `L`. -/
theorem LostIn.moveTo {L : BayId → Prop} {x : PumpState} (kept : x.isUp = true ∨ FreeToMove L p s) (h : LostIn L n s) :
    LostIn L n (s.moveTo p x) := by
  obtain ⟨r, reports, pump, -, -, before, after⟩ := State.moveTo_reports (s := s) (p := p) (x := x)
  have gauges : (s.moveTo p x).gauges = s.gauges := State.moveTo_touches.same .gauges
  obtain ⟨length, lost⟩ := h
  unfold LostIn
  rw [reports, List.length_append, List.drop_append_of_le_length length]
  refine ⟨by omega, fun r' hr b change => ?_⟩
  obtain old | new := List.mem_append.1 hr
  · exact lost r' old b change
  · rw [List.mem_singleton.1 new] at change
    unfold PumpReport.change at change
    split at change
    · cases change
    · rename_i differ
      simp only [Option.some.injEq, Prod.mk.injEq] at change
      obtain ⟨bay, out⟩ := change
      rw [pump] at bay
      subst bay
      rw [out, before] at differ
      rw [after] at out
      have standing (q : PumpId) (same : bayOf q = bayOf p) (up : (s.moveTo p x).pumps[q].state.isUp = true) : False := by
        rw [← same] at out differ
        have failed := (State.service_up up).1 out
        rw [gauges] at failed
        exact differ (State.service_lost (.inl failed)).symm
      obtain up | may | ⟨q, other, bay, up⟩ := kept
      · exact (standing p rfl (by rw [State.moveTo_self]; exact up)).elim
      · exact may
      · exact (standing q bay (by rw [State.moveTo_others q other]; exact up)).elim

/-- A pump that is free to move stays so, and loses no bay but those of `L`, whatever it does. -/
theorem lostIn_onPump {L : BayId → Prop} : OnPump p fun s => FreeToMove L p s ∧ LostIn L n s where
  moves h := ⟨h.1.of_others State.moveTo_others, h.2.moveTo (.inr h.1)⟩
  record h := ⟨h.1.of_others State.setPump_others, h.2.congr rfl⟩
  told h := ⟨h.1.of_others State.raisePumpFault_others, h.2.congr (State.raisePumpFault_touches.same .reports)⟩

/-! ## Pumps neither HOT nor held -/

/-- The pump, if it serves its bay, is neither HOT nor held (R126, R135, R136, R141). -/
def Fit (s : State) (p : PumpId) : Prop := s.pumps[p].state.serves = true → s.pins.hot[p] = false ∧ s.pumps[p].hold = false

/-- Every pump is fit. -/
def AllFit (s : State) : Prop := ∀ p : PumpId, Fit s p

theorem servingPumpsSound_fit (h : ServingPumpsSound s) : AllFit s := fun p => (h p).1

theorem AllFit.of_touches {bs : List Block} (touched : OnlyTouches bs s t) (h : AllFit s) (pumps : Block.pumps ∉ bs := by decide)
    (pins : Block.pins ∉ bs := by decide) : AllFit t := by
  intro p
  unfold Fit
  rw [touched.same .pumps pumps, touched.same .pins pins]
  exact h p

/-- An operation on one pump leaves the others fit. -/
theorem AllFit.of_others (others : OtherPumpsSame p s t) (pins : t.pins = s.pins) (fit : Fit t p) (h : AllFit s) : AllFit t := by
  intro q
  by_cases same : q = p
  · exact same ▸ fit
  · unfold Fit
    rw [others q same, pins]
    exact h q

theorem Fit.of_idle (down : s.pumps[p].state.serves = false) : Fit s p := fun serves => by rw [down] at serves; cases serves

theorem State.moveTo_fit {x : PumpState} (fit : x.serves = true → s.pins.hot[p] = false ∧ s.pumps[p].hold = false) :
    Fit (s.moveTo p x) p := by
  have pins : (s.moveTo p x).pins = s.pins := moveTo_touches.same .pins
  unfold Fit
  rw [moveTo_self, pins]
  exact fit

theorem State.faultWith_fit {k : FaultKind} {xs : List FaultKind} : Fit (s.faultWith p k xs) p :=
  .of_idle (by rw [faultWith_self]; rfl)

theorem State.toIdle_fit (hold : s.pumps[p].hold = false) : Fit (s.toIdle p) p := by
  have pins : (s.moveTo p .idle).pins = s.pins := moveTo_touches.same .pins
  unfold toIdle
  dsimp only
  split
  · exact faultWith_fit
  · rename_i cool
    rw [pins, Bool.not_eq_true] at cool
    exact moveTo_fit fun _ => ⟨cool, hold⟩

theorem State.leaveFault_fit : Fit (s.leaveFault p) p := by
  unfold leaveFault
  dsimp only
  split
  · exact moveTo_fit fun serves => nomatch serves
  · rename_i free
    exact toIdle_fit (by rw [setPump_self]; exact Bool.not_eq_true _ ▸ free)

theorem State.setPump_fit {x : Pump} (state : x.state = s.pumps[p].state) (hold : x.hold = s.pumps[p].hold) (h : Fit s p) :
    Fit (s.setPump p x) p := by
  unfold Fit
  rw [setPump_self, state, hold]
  exact h

theorem State.closeUp_fit {gone : FaultKind → Bool} (h : Fit s p) : Fit (s.closeUp p gone) p := by
  unfold closeUp
  dsimp only
  split
  · split
    · split
      · split
        · exact leaveFault_fit
        · exact setPump_fit rfl rfl h
      · exact setPump_fit rfl rfl h
    · exact h
  · exact setPump_fit rfl rfl h
  all_goals exact h

theorem State.selfClear_fit (h : Fit s p) : Fit (s.selfClear p) p := by
  unfold selfClear
  split
  · exact closeUp_fit h
  · exact h

theorem State.endRundown_fit : Fit (s.endRundown p) p := by
  unfold endRundown
  split
  · exact selfClear_fit faultWith_fit
  · split
    · exact moveTo_fit fun serves => nomatch serves
    · rename_i free
      exact toIdle_fit (Bool.not_eq_true _ ▸ free)

theorem State.stopPump_fit (h : Fit s p) : Fit (s.stopPump p) p := by
  unfold stopPump toRundown
  dsimp only
  split
  · split
    · exact moveTo_fit fun serves => nomatch serves
    · exact endRundown_fit
  · exact h

theorem State.withdrawCall_fit (h : Fit s p) : Fit (s.withdrawCall p) p := by
  unfold withdrawCall
  split
  · rename_i state
    exact toIdle_fit (h (by rw [state]; rfl)).2
  · exact h

/-! ## What a fit pump does when it is called, started or stopped -/

theorem State.toIdle_cool (cool : s.pins.hot[p] = false) : s.toIdle p = s.moveTo p .idle := by
  have pins : (s.moveTo p .idle).pins = s.pins := moveTo_touches.same .pins
  unfold toIdle
  dsimp only
  rw [pins, if_neg (by rw [cool]; decide)]

theorem State.toPriming_cool (cool : s.pins.hot[p] = false) :
    s.toPriming p = if s.pins.primed[p] then (s.moveTo p .priming).moveTo p .primed else s.moveTo p .priming := by
  have pins : (s.moveTo p .priming).pins = s.pins := moveTo_touches.same .pins
  have pins' : ((s.moveTo p .priming).moveTo p .primed).pins = s.pins :=
    Eq.trans (moveTo_touches.same .pins) pins
  unfold toPriming toPrimed
  dsimp only
  rw [pins, pins', if_neg (by rw [cool]; decide : ¬s.pins.hot[p] = true), if_neg (by rw [cool]; decide : ¬s.pins.hot[p] = true)]

theorem State.afterStarting_cool (cool : s.pins.hot[p] = false) :
    s.afterStarting p = if s.pins.running[p] then s.moveTo p .lifting else s := by
  have pins : (s.moveTo p .lifting).pins = s.pins := moveTo_touches.same .pins
  unfold afterStarting toLifting
  dsimp only
  rw [pins, if_neg (by rw [cool]; decide : ¬s.pins.hot[p] = true), if_neg (by rw [cool]; decide : ¬s.pins.hot[p] = true)]

/-- `P` survives the moves of fit pumps between states that serve. -/
structure OnServing (P : State → Prop) : Prop where
  moves : ∀ {s p x}, s.pumps[p].state.serves = true → x.serves = true → P s → P (s.moveTo p x)
  roster : ∀ {s t}, OnlyTouches [.roster] s t → P s → P t

theorem OnServing.rosterCall {P : State → Prop} (k : OnServing P) (fit : Fit s p) (h : P s) : P (s.rosterCall p) := by
  unfold State.rosterCall State.callPump
  split
  · split
    · rename_i call
      have serves : s.pumps[p].state.serves = true := by rw [call.1]; rfl
      rw [State.toPriming_cool (fit serves).1]
      have priming : P (s.moveTo p .priming) := k.moves serves rfl h
      split
      · exact k.moves (by rw [State.moveTo_self]; rfl) rfl priming
      · exact priming
    · exact h
  · exact h

theorem OnServing.requestStart {P : State → Prop} (k : OnServing P) (fit : Fit s p) (h : P s) : P (s.requestStart p) := by
  have noted : P (s.setOutstanding (some p)) := k.roster State.setOutstanding_touches h
  unfold State.requestStart
  dsimp only
  split
  · rename_i may
    have serves : s.pumps[p].state.serves = true := by rw [show s.pumps[p].state = .primed from may.1]; rfl
    have starting : P ((s.setOutstanding (some p)).moveTo p .starting) := k.moves serves rfl noted
    have begun : P ((((s.setOutstanding (some p)).moveTo p .starting).giveNumber p).setOutstanding none) :=
      k.roster State.setOutstanding_touches (k.roster State.giveNumber_touches starting)
    have pins : ((((s.setOutstanding (some p)).moveTo p .starting).giveNumber p).setOutstanding none).pins = s.pins :=
      State.moveTo_touches.same .pins
    rw [State.afterStarting_cool (by rw [pins]; exact (fit serves).1)]
    split
    · refine k.moves ?_ rfl begun
      show ((s.setOutstanding (some p)).moveTo p .starting).pumps[p].state.serves = true
      rw [State.moveTo_self]
      rfl
    · exact begun
  · exact k.roster State.setOutstanding_touches noted

/-- A fit pump stays fit when it moves between states that serve. -/
theorem fit_onServing : OnServing AllFit where
  moves {s p x} serves _ h :=
    h.of_others State.moveTo_others (State.moveTo_touches.same .pins) (State.moveTo_fit fun _ => h p serves)
  roster touched := AllFit.of_touches touched

theorem lostIn_onServing {L : BayId → Prop} : OnServing (LostIn L n) where
  moves _ serves h := h.moveTo (.inl (by rw [PumpState.isUp, serves]; rfl))
  roster touched := LostIn.congr (touched.same .reports)

end Sys2Proof.Machine
end

section
/-! SUPPORT. The settling of a command in a station of sound pumps: the bays that can be lost are known, and no call and no start
takes one out of service (R86, R98, R107, R124). -/

-- One proof after another, as in Laws: in parallel, the threads of so many outgrow the memory the check allows.
set_option Elab.async false

namespace Sys2Proof.Safety

open Sys2Proof Sys2Proof.Machine

/-- The pumps are fit, and of the reports since the `n`-th only those of bays of `L` bring a loss of service. -/
def Sound (L : BayId → Prop) (n : Nat) (s : State) : Prop := AllFit s ∧ LostIn L n s

/-- `P` survives what the blocks make of a command where only bays of `L` can be lost. -/
structure Reacts (L : BayId → Prop) (P : State → Prop) : Prop where
  quiet : ∀ {s t}, OnlyTouches moveParts s t → P s → P t
  started : ∀ {s b v w}, P s → s.grantOf b = none → s.winnerAt b v = some w → P (s.startGrant b w)
  lost : ∀ {s was b}, L b → P s → P (s.takeService was b .outOfService)

variable {L : BayId → Prop} {P : State → Prop} {s t : State} {b : BayId} {n : Nat}

theorem Sound.of_touches {bs : List Block} (touched : OnlyTouches bs s t) (h : Sound L n s) (pumps : Block.pumps ∉ bs := by decide)
    (pins : Block.pins ∉ bs := by decide) (reports : Block.reports ∉ bs := by decide) : Sound L n t :=
  ⟨h.1.of_touches touched pumps pins, h.2.congr (touched.same .reports reports)⟩

/-- An operation on a pump of a bay that may be lost. -/
theorem Sound.pump {p : PumpId} {f : State → State} (may : L (bayOf p)) (others : OtherPumpsSame p s (f s))
    (pins : (f s).pins = s.pins) (fit : Fit s p → Fit (f s) p)
    (reacts : OnPump p (fun s => FreeToMove L p s ∧ LostIn L n s) → FreeToMove L p s ∧ LostIn L n s →
      FreeToMove L p (f s) ∧ LostIn L n (f s)) (h : Sound L n s) : Sound L n (f s) :=
  ⟨h.1.of_others others pins (fit (h.1 p)), (reacts lostIn_onPump ⟨.inl may, h.2⟩).2⟩

theorem Sound.freeBay {g : Grant} {xs : List IntakeId} {reset : Bool} (may : L b) (h : Sound L n s) :
    Sound L n (s.freeBay b g xs reset) := by
  have bay {p : PumpId} (hp : p ∈ pumpsOf b) : L (bayOf p) := by rw [bayOf_pumpsOf b p hp]; exact may
  have stopped : Sound L n ((s.setGrant b none).each (pumpsOf b) fun x p => (x.stopPump p).withdrawCall p) := by
    refine each_keeps (fun p hp t h => ?_) (h.of_touches State.setGrant_touches)
    have stopped : Sound L n (t.stopPump p) :=
      h.pump (f := fun t => t.stopPump p) (bay hp) State.stopPump_others (State.stopPump_touches.same .pins) State.stopPump_fit
        fun k h => k.stopPump h
    exact stopped.pump (f := fun t => t.withdrawCall p) (bay hp) State.withdrawCall_others (State.withdrawCall_touches.same .pins)
      State.withdrawCall_fit fun k h => k.withdrawCall h
  have told := (stopped.of_touches (State.closeGates_touches (xs := xs))).of_touches
    (State.reportEnd_touches (d := g.district) (reset := reset))
  exact each_keeps (fun p hp t h => h.pump (f := fun t => t.selfClear p) (bay hp) State.selfClear_others
    (State.selfClear_touches.same .pins) State.selfClear_fit fun k h => k.selfClear h) told

theorem Sound.closeReturning {was : State} (may : L b) (h : Sound L n s) : Sound L n (s.closeReturning was b) := by
  unfold State.closeReturning
  split
  · exact h
  · exact (h.of_touches State.returnPortion_touches).freeBay may

theorem Sound.takeService {was : State} {v : Service} (may : v = .outOfService → L b) (h : Sound L n s) :
    Sound L n (s.takeService was b v) := by
  unfold State.takeService
  split
  · split
    · exact (h.of_touches State.reportAll_touches).closeReturning (may rfl)
    · exact h.of_touches State.arbitrateAt_touches
    · exact h
  · exact h

/-- A lost bay has been reported so. -/
theorem lostBays_in {old : State} (h : LostIn L old.reports.length s) (lost : b ∈ s.lostBays old) : L b := by
  obtain ⟨-, some⟩ := List.mem_filter.1 lost
  simp only [Bool.and_eq_true, List.any_eq_true, beq_iff_eq] at some
  obtain ⟨-, r, hr, change⟩ := some
  exact h.2 r hr b change

namespace Reacts

variable (k : Reacts L P)
include k

theorem arbitrateAt {v : Service} (h : P s) : P (s.arbitrateAt b v) := by
  unfold State.arbitrateAt
  split
  · exact h
  · rename_i free
    split
    · exact k.started h (Option.not_isSome_iff_eq_none.1 free) ‹_›
    · exact h

theorem takeService {was : State} {v : Service} (may : v = .outOfService → L b) (h : P s) : P (s.takeService was b v) := by
  cases v with
  | outOfService => exact k.lost (may rfl) h
  | serviceable =>
    unfold State.takeService
    split
    · exact k.arbitrateAt h
    · exact h
  | neither =>
    unfold State.takeService
    split <;> exact h

theorem takeReports {was : State} : ∀ {rounds m : Nat} {s : State}, n ≤ m → P s → Sound L n s →
    P (State.takeReports was rounds m s) ∧ Sound L n (State.takeReports was rounds m s)
  | 0, _, _, _, h, sound => ⟨h, sound⟩
  | rounds + 1, m, s, later, h, sound => by
    have taken : P (s.takeServices was ((s.reports.drop m).filterMap PumpReport.change))
        ∧ Sound L n (s.takeServices was ((s.reports.drop m).filterMap PumpReport.change)) := by
      refine each_keeps (P := fun t => P t ∧ Sound L n t) (fun x hx t h => ?_) ⟨h, sound⟩
      obtain ⟨r, hr, change⟩ := List.mem_filterMap.1 hx
      have may (out : x.2 = .outOfService) : L x.1 :=
        sound.2.2 r ((List.drop_sublist_drop_left _ later).subset hr) x.1 (by rw [change, ← out])
      exact ⟨k.takeService may h.1, h.2.takeService may⟩
    exact takeReports (rounds := rounds) sound.2.1 taken.1 taken.2

/-- Only lost bays of `L` are closed; where these hold no grant, no portion ends. -/
theorem judgeReports {old : State} (free : ∀ b ∈ s.lostBays old, s.grantOf b = none) (h : P s)
    (sound : Sound L old.reports.length s) : P (s.judgeReports old) ∧ Sound L old.reports.length (s.judgeReports old) := by
  have ends : (s.lostBays old).filterMap (fun b => s.endTest b false) = [] :=
    List.filterMap_eq_nil_iff.2 fun b hb => State.endTest_free (free b hb)
  unfold State.judgeReports
  rw [ends, State.endPortions_nil]
  exact k.takeReports (le_refl _) h sound

/-- Calls and starts of fit pumps cost no bay its service (R85, R107, R111). -/
theorem settleRoster {old : State} {x : Settling} (h : P s) (fit : AllFit s) :
    P (s.settleRoster old x) ∧ AllFit (s.settleRoster old x) := by
  have serving : OnServing fun t => P t ∧ Sound (fun _ => False) s.reports.length t :=
    { moves := fun serves serves' h => ⟨k.quiet State.moveTo_touches h.1, fit_onServing.moves serves serves' h.2.1,
        lostIn_onServing.moves serves serves' h.2.2⟩
      roster := fun touched h => ⟨k.quiet touched.mono h.1, h.2.of_touches touched⟩ }
  have start : P s ∧ Sound (fun _ => False) s.reports.length s :=
    ⟨h, fit, le_refl _, fun r hr => by rw [List.drop_length] at hr; cases hr⟩
  have called : P (s.holdCeiling.callPumps old x.callAll)
      ∧ Sound (fun _ => False) s.reports.length (s.holdCeiling.callPumps old x.callAll) :=
    each_keeps (P := fun t => P t ∧ Sound (fun _ => False) s.reports.length t) (fun p _ t h => serving.rosterCall (h.2.1 p) h)
      (serving.roster State.holdCeiling_touches start)
  have considered {t : State} {xs : List PumpId} (h : P t ∧ Sound (fun _ => False) s.reports.length t) :
      P (t.considerStart xs) ∧ Sound (fun _ => False) s.reports.length (t.considerStart xs) := by
    unfold State.considerStart
    split
    · split
      · exact serving.requestStart (h.2.1 _) h
      · exact h
    · exact h
  have none : Reacts (fun _ => False) P := ⟨k.quiet, k.started, fun no => no.elim⟩
  have taken {u : State} (h : P u ∧ Sound (fun _ => False) s.reports.length u) :
      P ((State.takeReports u 3 s.reports.length u).withReports [])
        ∧ AllFit ((State.takeReports u 3 s.reports.length u).withReports []) := by
    obtain ⟨now, fit, -⟩ := none.takeReports (was := u) (rounds := 3) (le_refl _) h.1 h.2
    exact ⟨k.quiet State.withReports_touches.mono now, fit.of_touches State.withReports_touches⟩
  unfold State.settleRoster
  dsimp only
  split
  · exact taken (considered called)
  · exact taken called

theorem settle {old : State} {x : Settling} (running : s.isRunning) (free : ∀ b ∈ s.lostBays old, s.grantOf b = none) (h : P s)
    (sound : Sound L old.reports.length s) : P (s.settle old x) := by
  have same : (s.judgeReports old).loader = s.loader := State.judgeReports_touches.same .loader
  have stays : (s.judgeReports old).leaveChecking = s.judgeReports old := if_neg fun c => by
    rw [same, running] at c
    cases c.1
  obtain ⟨judged, fit, -⟩ := k.judgeReports free h sound
  rw [State.settle, stays]
  exact (k.settleRoster judged fit).1

end Reacts

end Sys2Proof.Safety
end

section
/-! SUPPORT. PORT RESET (R80, R100, R165). -/

-- One proof after another, as in Laws: in parallel, the threads of so many outgrow the memory the check allows.
set_option Elab.async false

namespace Sys2Proof.Safety

open Sys2Proof Sys2Proof.Machine

variable {s t : State} {d : DistrictId} {b : BayId} {p : PumpId} {n : Nat} {L : BayId → Prop}

/-! ## The close of a bay that is in use -/

/-- A pump that serves has nothing noted (R132). -/
def Clean (s : State) (p : PumpId) : Prop := s.pumps[p].state.serves = true → s.pumps[p].noted = []

theorem faultRecordsSound_clean (h : FaultRecordsSound s) : Clean s p := by
  intro serves
  by_contra noted
  obtain fault | rundown := (h p).2.1 noted
  · rw [fault] at serves; cases serves
  · rw [rundown] at serves; cases serves

/-- A pump of the bay keeps it from going out of service. -/
def HasUp (b : BayId) (s : State) : Prop := ∃ p : PumpId, bayOf p = b ∧ s.pumps[p].state.isUp = true

/-- A bay that is not out of service has a pump up (R85). -/
theorem hasUp_of_service (h : s.service b ≠ .outOfService) : HasUp b s := by
  unfold State.service at h
  split at h
  · exact absurd rfl h
  · split at h
    · rename_i some
      obtain ⟨p, hp, serves⟩ := List.any_eq_true.1 some
      exact ⟨p, bayOf_pumpsOf b p hp, by rw [PumpState.isUp, serves]; rfl⟩
    · split at h
      · rename_i some
        obtain ⟨p, hp, down⟩ := List.any_eq_true.1 some
        exact ⟨p, bayOf_pumpsOf b p hp, by rw [PumpState.isUp, down, Bool.or_true]⟩
      · exact absurd rfl h

/-- A pump that counts serves its bay (R85, R111). -/
theorem serves_of_counts {x : PumpState} (counts : x.counts = true) : x.serves = true := by
  cases x with
  | starting => rfl
  | lifting => rfl
  | offline => cases counts
  | idle => cases counts
  | priming => cases counts
  | primed => cases counts
  | rundown => cases counts
  | fault => cases counts
  | held => cases counts

/-- A fit and clean pump that is stopped runs down, and from there goes to IDLE (R131). -/
theorem stopPump_clean (fit : Fit s p) (clean : Clean s p) :
    s.stopPump p =
      if s.pumps[p].state.counts then
        if s.pins.running[p] then s.moveTo p .rundown else (s.moveTo p .rundown).moveTo p .idle
      else s := by
  have pins : (s.moveTo p .rundown).pins = s.pins := State.moveTo_touches.same .pins
  unfold State.stopPump
  split
  · rename_i counts
    have serves : s.pumps[p].state.serves = true := serves_of_counts counts
    obtain ⟨cool, free⟩ := fit serves
    unfold State.toRundown
    dsimp only
    rw [pins]
    split
    · rfl
    · unfold State.endRundown
      rw [State.moveTo_self]
      dsimp only
      rw [clean serves]
      dsimp only
      rw [free, if_neg Bool.false_ne_true, State.toIdle_cool (by rw [pins]; exact cool)]
  · rfl

/-- A fit pump whose call is withdrawn goes to IDLE (Table 6-2). -/
theorem withdrawCall_fit_eq (fit : Fit s p) :
    s.withdrawCall p = if s.pumps[p].state = .priming then s.moveTo p .idle else s := by
  unfold State.withdrawCall
  split
  · rename_i state
    rw [State.toIdle_cool (fit (by rw [state]; rfl)).1]
  · rfl

/-- Bay `b` has a pump up, its pumps are clean, and no bay but those of `L` has been lost. -/
structure InUse (L : BayId → Prop) (n : Nat) (b : BayId) (s : State) : Prop where
  sound : Sound L n s
  clean : ∀ p : PumpId, bayOf p = b → Clean s p
  up : HasUp b s

theorem InUse.of_touches {bs : List Block} (touched : OnlyTouches bs s t) (h : InUse L n b s) (pumps : Block.pumps ∉ bs := by decide)
    (pins : Block.pins ∉ bs := by decide) (reports : Block.reports ∉ bs := by decide) : InUse L n b t := by
  have same : t.pumps = s.pumps := touched.same .pumps pumps
  refine ⟨h.sound.of_touches touched pumps pins reports, fun p bay => ?_, ?_⟩
  · unfold Clean
    rw [same]
    exact h.clean p bay
  · unfold HasUp
    rw [same]
    exact h.up

/-- A move to a state that is up keeps the bay in use. -/
theorem InUse.moveTo {x : PumpState} (up : x.isUp = true) (serves : x.serves = true → s.pins.hot[p] = false ∧ s.pumps[p].hold = false)
    (noted : s.pumps[p].noted = []) (bay : bayOf p = b) (h : InUse L n b s) : InUse L n b (s.moveTo p x) := by
  refine ⟨⟨h.sound.1.of_others State.moveTo_others (State.moveTo_touches.same .pins) (State.moveTo_fit serves),
    h.sound.2.moveTo (.inl up)⟩, fun q same => ?_, p, bay, by rw [State.moveTo_self]; exact up⟩
  unfold Clean
  by_cases this : q = p
  · subst this
    rw [State.moveTo_self]
    exact fun _ => noted
  · rw [State.moveTo_others q this]
    exact h.clean q same

theorem InUse.stopPump (bay : bayOf p = b) (h : InUse L n b s) : InUse L n b (s.stopPump p) := by
  rw [stopPump_clean (h.sound.1 p) (h.clean p bay)]
  split
  · rename_i counts
    have serves : s.pumps[p].state.serves = true := serves_of_counts counts
    have noted := h.clean p bay serves
    have down : InUse L n b (s.moveTo p .rundown) := h.moveTo rfl (fun no => nomatch no) noted bay
    have pins : (s.moveTo p .rundown).pins = s.pins := State.moveTo_touches.same .pins
    split
    · exact down
    · exact down.moveTo rfl (fun _ => by rw [pins, State.moveTo_self]; exact h.sound.1 p serves)
        (by rw [State.moveTo_self]; exact noted) bay
  · exact h

theorem InUse.withdrawCall (bay : bayOf p = b) (h : InUse L n b s) : InUse L n b (s.withdrawCall p) := by
  rw [withdrawCall_fit_eq (h.sound.1 p)]
  split
  · rename_i state
    have serves : s.pumps[p].state.serves = true := by rw [state]; rfl
    exact h.moveTo rfl (fun _ => h.sound.1 p serves) (h.clean p bay serves) bay
  · exact h

/-- A fault that clears leaves the bay to the pump that is up. -/
theorem selfClear_hasUp (bay : bayOf p = b) (h : Sound L n s ∧ HasUp b s) : Sound L n (s.selfClear p) ∧ HasUp b (s.selfClear p) := by
  obtain ⟨⟨fit, lost⟩, q, same, up⟩ := h
  by_cases fault : s.pumps[p].state = .fault
  · have other : q ≠ p := by
      intro this
      rw [this, fault] at up
      cases up
    have free : FreeToMove L p s := .inr ⟨q, other, same.trans bay.symm, up⟩
    refine ⟨⟨fit.of_others State.selfClear_others (State.selfClear_touches.same .pins) (State.selfClear_fit (fit p)),
      (lostIn_onPump.selfClear ⟨free, lost⟩).2⟩, q, same, ?_⟩
    rw [State.selfClear_others q other]
    exact up
  · have stands : s.selfClear p = s := if_neg fun c => fault c.1
    rw [stands]
    exact ⟨⟨fit, lost⟩, q, same, up⟩

/-- A bay in use is freed without being lost (R91, R98). -/
theorem InUse.freeBay {g : Grant} {xs : List IntakeId} {reset : Bool} (h : InUse L n b s) : Sound L n (s.freeBay b g xs reset) := by
  have stopped : InUse L n b ((s.setGrant b none).each (pumpsOf b) fun x p => (x.stopPump p).withdrawCall p) :=
    each_keeps (fun p hp _ h => (h.stopPump (bayOf_pumpsOf b p hp)).withdrawCall (bayOf_pumpsOf b p hp))
      (h.of_touches State.setGrant_touches)
  have told := (stopped.of_touches (State.closeGates_touches (xs := xs))).of_touches
    (State.reportEnd_touches (d := g.district) (reset := reset))
  exact (each_keeps (P := fun s => Sound L n s ∧ HasUp b s) (fun p hp _ => selfClear_hasUp (bayOf_pumpsOf b p hp))
    ⟨told.sound, told.up⟩).1

/-- The pumps of a bay are as they were. -/
def PumpsSame (b : BayId) (s t : State) : Prop := ∀ p : PumpId, bayOf p = b → t.pumps[p] = s.pumps[p]

/-- The close of a bay's grant moves the pumps of that bay alone. -/
theorem closeGrant_pumpsSame {b' : BayId} {g : Grant} {xs : List IntakeId} {reset : Bool} (other : b' ≠ b) :
    PumpsSame b' s (s.closeGrant b g xs reset) := by
  have keep {f : State → PumpId → State} (others : ∀ t p, OtherPumpsSame p t (f t p)) {u : State} (h : PumpsSame b' s u) :
      PumpsSame b' s (u.each (pumpsOf b) f) :=
    each_keeps (fun p hp t h q bay => by
      rw [others t p q (by rintro rfl; exact other (bay.symm.trans (bayOf_pumpsOf b q hp)))]
      exact h q bay) h
  have quiet {bs : List Block} {t u : State} (touched : OnlyTouches bs t u) (h : PumpsSame b' s t)
      (pumps : Block.pumps ∉ bs := by decide) : PumpsSame b' s u := fun p bay => by
    rw [touched.same .pumps pumps]
    exact h p bay
  unfold State.closeGrant
  split
  · exact quiet State.handOver_touches fun _ _ => rfl
  · refine keep (fun _ _ => State.selfClear_others) (quiet State.reportEnd_touches (quiet State.closeGates_touches ?_))
    exact keep (fun _ _ => State.stopPump_others.andThen State.withdrawCall_others) (quiet State.setGrant_touches fun _ _ => rfl)

/-- The closings stand in the order of the bays, each of its own (R1, R79). -/
theorem grantsWith_nodup {test : DistrictId → Portion → Bool} : ((s.grantsWith test).map Closing.bay).Nodup := by
  have part : List.Sublist ((s.grantsWith test).map Closing.bay) allBays := by
    unfold State.grantsWith
    generalize allBays = bays
    induction bays with
    | nil => exact .slnil
    | cons b rest ih =>
      rw [List.filterMap_cons]
      split
      · exact ih.cons _
      · rename_i x found
        obtain ⟨g, -, found⟩ := Option.bind_eq_some_iff.1 found
        obtain ⟨p, -, found⟩ := Option.bind_eq_some_iff.1 found
        split at found
        · cases found
          exact ih.cons_cons _
        · cases found
  exact part.nodup (by decide)

/-- The bay can be freed from the state: it is in use, and its pumps are sound (R85, R132). -/
structure CanFree (b : BayId) (s : State) : Prop where
  clean : ∀ p : PumpId, bayOf p = b → Clean s p
  up : HasUp b s

theorem CanFree.congr (same : PumpsSame b s t) (h : CanFree b s) : CanFree b t := by
  refine ⟨fun p bay => ?_, ?_⟩
  · unfold Clean
    rw [same p bay]
    exact h.clean p bay
  · obtain ⟨p, bay, up⟩ := h.up
    exact ⟨p, bay, by rw [same p bay]; exact up⟩

/-- Closes of bays in use lose none. -/
theorem closeGrants_sound {reset : Bool} : ∀ {xs : List Closing} {s : State}, (xs.map Closing.bay).Nodup →
    (∀ x ∈ xs, CanFree x.bay s) → Sound L n s → Sound L n (s.closeGrants xs reset)
  | [], _, _, _, h => h
  | x :: xs, s, apart, use, h => by
    obtain ⟨fresh, apart⟩ := List.nodup_cons.1 apart
    have first := use x List.mem_cons_self
    have closed : Sound L n (s.closeGrant x.bay x.grant x.intakes reset) := by
      unfold State.closeGrant
      split
      · exact h.of_touches State.handOver_touches
      · exact InUse.freeBay ⟨h, first.clean, first.up⟩
    refine closeGrants_sound (xs := xs) apart (fun y hy => ?_) closed
    exact (use y (List.mem_cons_of_mem _ hy)).congr
      (closeGrant_pumpsSame fun same => fresh (same ▸ List.mem_map_of_mem hy))

end Sys2Proof.Safety
end

section
/-! SUPPORT. PORT RESET (R80, R100, R161, R165), its four steps. -/

-- One proof after another, as in Laws: in parallel, the threads of so many outgrow the memory the check allows.
set_option Elab.async false

namespace Sys2Proof.Safety

open Sys2Proof Sys2Proof.Machine

variable {s t : State} {d : DistrictId}

/-! ## The port -/

/-- No ORDER DONE waits in `r`, and what goes out is what went out in `q` (R165, step 1). -/
structure Emptied (q r : Port) : Prop where
  waiting : ∀ e ∈ r.waiting, e.isDone = false
  sent : r.inTransmission = q.inTransmission
  sending : r.sending = q.sending
  lastGood : r.lastGood = q.lastGood
  goes : r.sending.isSome = true → r.queue ≠ []

theorem Port.join_waiting {q : Port} {e : TxEntry} (goes : q.sending.isSome = true → q.queue ≠ []) :
    (q.join e).waiting = q.waiting ++ [e] := by
  unfold Port.waiting
  show (if q.sending.isSome then (q.queue ++ [e]).drop 1 else q.queue ++ [e]) = _
  split
  · obtain ⟨x, xs, queue⟩ := List.exists_cons_of_ne_nil (goes ‹_›)
    rw [queue]
    rfl
  · rfl

theorem Emptied.join {q r : Port} {e : TxEntry} (other : e.isDone = false) (h : Emptied q r) : Emptied q (r.join e) where
  waiting x hx := by
    rw [Port.join_waiting h.goes] at hx
    obtain old | new := List.mem_append.1 hx
    · exact h.waiting x old
    · rw [List.mem_singleton.1 new]
      exact other
  sent := (Port.join_inTransmission e h.goes).trans h.sent
  sending := h.sending
  lastGood := h.lastGood
  goes _ := by simp [Port.join]

/-- Flags and report settings are none of it. -/
theorem Emptied.congr {q r x : Port} (queue : x.queue = r.queue) (sending : x.sending = r.sending) (lastGood : x.lastGood = r.lastGood)
    (h : Emptied q r) : Emptied q x := by
  refine ⟨?_, ?_, sending.trans h.sending, lastGood.trans h.lastGood, ?_⟩
  · unfold Port.waiting
    rw [queue, sending]
    exact h.waiting
  · unfold Port.inTransmission
    rw [queue, sending]
    exact h.sent
  · rw [queue, sending]
    exact h.goes

theorem Emptied.askReport {q r : Port} (h : Emptied q r) : Emptied q r.askReport := by
  unfold Port.askReport
  split
  · exact h
  · split
    · exact ⟨h.waiting, h.sent, h.sending, h.lastGood, h.goes⟩
    · exact h.join rfl

/-- Step 1 of R165. -/
theorem emptyWaiting_emptied {q : Port} (h : q.Bounded) : Emptied q q.emptyWaiting where
  waiting e he := by
    have none : q.emptyWaiting.waiting = [] := by
      unfold Port.waiting Port.emptyWaiting Port.inTransmission
      dsimp only
      split <;> simp
    rw [none] at he
    cases he
  sent := q.emptyWaiting_inTransmission
  sending := rfl
  lastGood := rfl
  goes := (Port.emptyWaiting_bounded h).2.2.2.2

theorem reportTo_emptied {q : Port} {x : DistrictId} {e : ReportEvent} (h : Emptied q s.ports[d]) :
    Emptied q (s.reportTo x e).ports[d] := by
  unfold State.reportTo
  split
  · refine setPort_port (Q := Emptied q) (fun same => ?_) h
    subst same
    exact Emptied.askReport (Emptied.congr (r := s.ports[x]) rfl rfl rfl h)
  · exact h

/-- The closes of grants leave the queue without ORDER DONE (R165, step 2). -/
theorem emptied_stands {q : Port} : Stands Anyone fun s => Emptied q s.ports[d] where
  moved touched h := by rw [touched.same .ports]; exact h
  told _ := reportTo_emptied
  opened h := by rw [State.openGate_touches.same .ports]; exact h
  closed h := by rw [State.closeGate_touches.same .ports]; exact h
  freed := id
  returned := id
  granted h _ := by
    rw [State.setPortion_touches.same .ports, State.installGrant_touches.same .ports]
    exact h
  fault _ := trivial
  unserved _ := trivial
  holder _ _ := trivial
  winner _ _ := trivial

/-! ## The district -/

/-- The district has no orders and holds no bay (R80, R100). -/
def NoOrders (d : DistrictId) (s : State) : Prop :=
  s.orders.districts[d] = { table := [], queue := [], finished := [] } ∧ ∀ b : BayId, ∀ g ∈ s.grantOf b, g.district ≠ d

theorem NoOrders.of_touches {bs : List Block} (touched : OnlyTouches bs s t) (h : NoOrders d s) (orders : Block.orders ∉ bs := by decide)
    (arbiters : Block.arbiters ∉ bs := by decide) : NoOrders d t := by
  unfold NoOrders State.grantOf
  rw [touched.same .orders orders, touched.same .arbiters arbiters]
  exact h

theorem NoOrders.mapPortions {x : DistrictId} {test : Portion → Bool} {f : Portion → Portion} (h : NoOrders d s) :
    NoOrders d (s.mapPortions x test f) := by
  refine ⟨?_, h.2⟩
  rw [State.mapPortions_districts]
  split
  · rw [h.1]
    rfl
  · exact h.1

/-- Without orders the district wins no bay. -/
theorem NoOrders.winner {b : BayId} {v : Service} {w : Contender} (h : NoOrders d s) (won : s.winnerAt b v = some w) :
    w.district ≠ d := by
  rintro rfl
  have member := (State.candidate_waits (State.winnerAt_wins won).candidate).1
  rw [h.1] at member
  cases member

theorem NoOrders.granted {b : BayId} {v : Service} {w : Contender} (h : NoOrders d s) (won : s.winnerAt b v = some w) :
    NoOrders d ((s.installGrant b w).setPortion w.district w.portion.tag b .inService) := by
  refine NoOrders.mapPortions ⟨?_, fun x g hg => ?_⟩
  · rw [State.installGrant_touches.same .orders]
    exact h.1
  · obtain ⟨-, same, -⟩ | ⟨-, g', old, same, -⟩ := installGrant_grantOf hg
    · rw [same]
      exact h.winner won
    · rw [same]
      exact h.2 x g' old

/-- What the port of a district without orders may be told of: what the pumps of all bring, not its own grants (R86, R133). -/
def NotOfGrants (d : DistrictId) : ReportEvent → DistrictId → Prop := fun e x => x ≠ d ∨ e = .pumpFault ∨ e = .bayUnserved

theorem noOrders_lasts : Lasts (NotOfGrants d) (NoOrders d) where
  stands :=
    { moved := fun touched h => h.of_touches touched
      told := fun _ h => h.of_touches State.reportTo_touches
      opened := fun h => h.of_touches State.openGate_touches
      closed := fun h => h.of_touches State.closeGate_touches
      freed := fun {s b} h => ⟨h.1, fun x g hg => by
        rw [State.setGrant_grantOf] at hg
        split at hg
        · cases hg
        · exact h.2 x g hg⟩
      returned := fun h => h.mapPortions
      granted := fun h won => h.granted won
      fault := fun _ => .inr (.inl rfl)
      unserved := fun _ => .inr (.inr rfl)
      holder := fun h grant => .inl (h.2 _ _ grant)
      winner := fun h won => .inl (h.winner won) }
  ends {s es} h := by
    refine endPortions_keeps (fun _ _ h => h.mapPortions) (fun t x o member now => ⟨?_, ?_⟩) h
    · have other : x ≠ d := by
        rintro rfl
        rw [h.1] at member
        cases member
      exact testOrder_districts (D := fun y => y = { table := [], queue := [], finished := [] })
        (fun same => absurd same other) (fun same => absurd same other) now.1
    · unfold State.grantOf
      rw [State.testOrder_touches.same .arbiters]
      exact now.2

/-- An order's end is told at the port of its district (R76). -/
theorem testOrder_others {x : DistrictId} {o : Order} : OtherPortsSame x s (s.testOrder x o) := by
  unfold State.testOrder State.endOrder
  dsimp only
  split
  · split
    · exact State.setPort_others
    · exact fun _ _ => rfl
  · exact fun _ _ => rfl

/-- Ends of portions leave the port of a district without orders alone. -/
theorem NoOrders.endPortions_port {es : List Ending} (h : NoOrders d s) : (s.endPortions es).ports[d] = s.ports[d] := by
  refine endPortions_keeps (s := s) (P := fun t => t.ports[d] = s.ports[d]) (fun t e same => ?_) (fun t x o member same => ?_) rfl
  · rw [State.setPortion_touches.same .ports]
    exact same
  · refine (testOrder_others d ?_).trans same
    rintro rfl
    rw [h.1] at member
    cases member

/-- The flags that may stand at the port are those of the pumps (R165, step 3). -/
def FlagsOfPumps (q : Port) : Prop := q.flags &&& 0xFEBF = 0

theorem flagsOfPumps_or {q : Port} {e : ReportEvent} (of : e = .pumpFault ∨ e = .bayUnserved) (h : FlagsOfPumps q) :
    (q.flags ||| e.bit) &&& 0xFEBF = 0 := by
  unfold FlagsOfPumps at h
  rw [BitVec.and_or_distrib_right, h]
  obtain rfl | rfl := of <;> decide

/-- The port of a district without orders, while the command settles. -/
structure Restored (q : Port) (d : DistrictId) (s : State) : Prop where
  orders : NoOrders d s
  line : Emptied q s.ports[d]
  flags : FlagsOfPumps s.ports[d]

theorem restored_lasts {q : Port} : Lasts (NotOfGrants d) (Restored q d) where
  stands :=
    { moved := fun touched h => ⟨noOrders_lasts.stands.moved touched h.orders, emptied_stands.moved touched h.line, by
        rw [touched.same .ports]; exact h.flags⟩
      told := fun {s x e} may h => by
        refine ⟨noOrders_lasts.stands.told may h.orders, reportTo_emptied h.line, ?_⟩
        by_cases same : x = d
        · subst same
          unfold FlagsOfPumps
          rw [State.reportTo_flags]
          split
          · exact flagsOfPumps_or (may.resolve_left fun no => no rfl) h.flags
          · exact h.flags
        · rw [State.reportTo_others d (Ne.symm same)]
          exact h.flags
      opened := fun {s i} h => ⟨noOrders_lasts.stands.opened h.orders, emptied_stands.opened h.line, by
        rw [State.openGate_touches.same .ports]; exact h.flags⟩
      closed := fun {s i} h => ⟨noOrders_lasts.stands.closed h.orders, emptied_stands.closed h.line, by
        rw [State.closeGate_touches.same .ports]; exact h.flags⟩
      freed := fun h => ⟨noOrders_lasts.stands.freed h.orders, h.line, h.flags⟩
      returned := fun h => ⟨noOrders_lasts.stands.returned h.orders, h.line, h.flags⟩
      granted := fun {s b v w} h won => ⟨h.orders.granted won, emptied_stands.granted h.line won, by
        rw [State.setPortion_touches.same .ports, State.installGrant_touches.same .ports]; exact h.flags⟩
      fault := noOrders_lasts.stands.fault
      unserved := noOrders_lasts.stands.unserved
      holder := fun h => noOrders_lasts.stands.holder h.orders
      winner := fun h => noOrders_lasts.stands.winner h.orders }
  ends {s es} h := by
    have same : (s.endPortions es).ports[d] = s.ports[d] := h.orders.endPortions_port
    exact ⟨noOrders_lasts.ends h.orders, by rw [same]; exact h.line, by rw [same]; exact h.flags⟩

/-! ## The four steps (R165) -/

/-- The district's orders are cancelled (R80, R100). -/
theorem cancelOrders_noOrders (portions : ∀ b : BayId, ∀ g ∈ s.grantOf b, g.district = d → (s.portion d g.tag b).isSome = true) :
    NoOrders d (s.cancelOrders d) := by
  refine ⟨State.setOrders_districts.trans (if_pos rfl), fun b g hg same => ?_⟩
  refine (closeGrants_over (c := fun x _ _ => x = d) ⟨allEnded_changed (fun _ _ _ _ => rfl) fun x p _ other mine => ?_,
    fun b g hg mine => ?_⟩).2 b g hg same
  · simpa using other mine
  · obtain ⟨p, found⟩ := Option.isSome_iff_exists.1 (portions b g hg mine)
    exact mem_grantsWith (p := p) hg (by rw [mine]; exact found) (beq_iff_eq.2 mine)

/-- PORT RESET of an enabled district, up to its answer (R165). -/
def resetState (s : State) (d : DistrictId) (pair : Pair) : State :=
  let a := (s.setPort d s.ports[d].emptyWaiting).cancelOrders d
  (a.setPort d (a.ports[d].restore a.settings.districts[d])).answerFrame d pair kindPortReset 0 .accepted []

variable {pair : Pair}

theorem resetState_port :
    (resetState s d pair).ports[d] =
      ((((s.setPort d s.ports[d].emptyWaiting).cancelOrders d).ports[d].restore s.settings.districts[d]).join
        (replyOf pair kindPortReset 0 .accepted)) := by
  have settings : ((s.setPort d s.ports[d].emptyWaiting).cancelOrders d).settings = s.settings :=
    State.cancelOrders_touches.same .settings
  unfold resetState State.answerFrame State.queueReply
  dsimp only
  rw [State.setPort_self, State.setPort_self, settings]
  rfl

theorem resetState_touches : OnlyTouches settled s (resetState s d pair) := by
  unfold resetState
  exact ((State.setPort_touches.andThen State.cancelOrders_touches (ds := settled)).andThen State.setPort_touches
    (ds := settled)).andThen State.answerFrame_touches

theorem resetState_restored (bounded : s.ports[d].Bounded)
    (portions : ∀ b : BayId, ∀ g ∈ s.grantOf b, g.district = d → (s.portion d g.tag b).isSome = true) :
    Restored s.ports[d] d (resetState s d pair) := by
  have cancelled : NoOrders d ((s.setPort d s.ports[d].emptyWaiting).cancelOrders d) :=
    cancelOrders_noOrders (s := s.setPort d s.ports[d].emptyWaiting) portions
  have emptied : Emptied s.ports[d] ((s.setPort d s.ports[d].emptyWaiting).cancelOrders d).ports[d] := by
    refine emptied_stands.closeGrants (fun _ _ => .inr trivial) ?_
    show Emptied s.ports[d] (s.setPort d s.ports[d].emptyWaiting).ports[d]
    rw [State.setPort_self]
    exact emptyWaiting_emptied bounded
  refine ⟨(cancelled.of_touches State.setPort_touches).of_touches State.answerFrame_touches, ?_, ?_⟩
  · rw [resetState_port]
    exact Emptied.join rfl (Emptied.congr (r := ((s.setPort d s.ports[d].emptyWaiting).cancelOrders d).ports[d]) rfl rfl rfl emptied)
  · rw [resetState_port]
    show (0 : BitVec 16) &&& 0xFEBF = 0
    decide

/-- Where the bays of the district are in use and its pumps sound, no bay is lost (R98). -/
theorem resetState_sound (fit : AllFit s) (records : FaultRecordsSound s)
    (use : ∀ b : BayId, ∀ g ∈ s.grantOf b, g.district = d → s.service b ≠ .outOfService) :
    Sound (fun _ => False) s.reports.length (resetState s d pair) := by
  have start : Sound (fun _ => False) s.reports.length s :=
    ⟨fit, le_refl _, fun r hr => by rw [List.drop_length] at hr; cases hr⟩
  have cancelled : Sound (fun _ => False) s.reports.length ((s.setPort d s.ports[d].emptyWaiting).cancelOrders d) := by
    refine Sound.of_touches State.setOrders_touches (closeGrants_sound grantsWith_nodup (fun x hx => ?_) ?_)
    · obtain ⟨grant, p, -, mine, -⟩ := of_mem_grantsWith hx
      exact ⟨fun q _ => faultRecordsSound_clean records, hasUp_of_service (use x.bay x.grant grant (beq_iff_eq.1 mine))⟩
    · exact (start.of_touches State.setPort_touches).of_touches State.mapPortions_touches
  exact (cancelled.of_touches State.setPort_touches).of_touches State.answerFrame_touches

/-- A district without orders is told nothing where no bay is lost. -/
theorem untold_reacts {q : Port} : Reacts (fun _ => False) fun t => NoOrders d t ∧ t.ports[d] = q where
  quiet touched h := ⟨h.1.of_touches touched, by rw [touched.same .ports]; exact h.2⟩
  started {s b v w} h free won := by
    have granted := h.1.granted won
    refine ⟨(granted.of_touches State.openGates_touches).of_touches State.reportTo_touches, ?_⟩
    unfold State.startGrant
    rw [State.reportTo_others d (Ne.symm (h.1.winner won)), State.openGates_touches.same .ports,
      State.setPortion_touches.same .ports, State.installGrant_touches.same .ports]
    exact h.2
  lost no := no.elim

/-! ## After settling -/

theorem resetState_running (running : s.isRunning) : (resetState s d pair).isRunning := by
  rw [State.isRunning, resetState_touches.same .loader]
  exact running

theorem resetState_reply : replyOf pair kindPortReset 0 .accepted ∈ (resetState s d pair).ports[d].queue := by
  rw [resetState_port]
  exact List.mem_append_right _ (List.mem_singleton.2 rfl)

/-- The port keeps the settings it has been restored to (R165). -/
theorem settle_settings {old : State} (running : s.isRunning) :
    ((resetState s d pair).settle old {}).ports[d].mask = s.settings.districts[d].mask &&& 0x03FF
    ∧ ((resetState s d pair).settle old {}).ports[d].interval = s.settings.districts[d].interval
    ∧ ((resetState s d pair).settle old {}).ports[d].timer =
        (if s.settings.districts[d].interval = 0 then none else some s.settings.districts[d].interval) := by
  have kept : SignalsKept (resetState s d pair) ((resetState s d pair).settle old {}) :=
    State.settle_signals (by rw [show (resetState s d pair).loader.station = .running from resetState_running running]; decide)
  obtain ⟨mask, interval, -⟩ := kept.ports d
  rw [mask, interval, kept.timers d, resetState_port]
  exact ⟨rfl, rfl, rfl⟩

/-- With its bays in use the district is told nothing of the reset (R98, R165). -/
theorem settle_untold (running : s.isRunning) (fit : AllFit s) (records : FaultRecordsSound s)
    (portions : ∀ b : BayId, ∀ g ∈ s.grantOf b, g.district = d → (s.portion d g.tag b).isSome = true)
    (use : ∀ b : BayId, ∀ g ∈ s.grantOf b, g.district = d → s.service b ≠ .outOfService) :
    ((resetState s d pair).settle s {}).ports[d] = (resetState s d pair).ports[d] := by
  have sound := resetState_sound (pair := pair) fit records use
  have cancelled : NoOrders d ((s.setPort d s.ports[d].emptyWaiting).cancelOrders d) :=
    cancelOrders_noOrders (s := s.setPort d s.ports[d].emptyWaiting) portions
  have orders : NoOrders d (resetState s d pair) :=
    (cancelled.of_touches State.setPort_touches).of_touches State.answerFrame_touches
  exact (untold_reacts.settle (resetState_running running) (fun b lost => (lostBays_in sound.2 lost).elim) ⟨orders, rfl⟩ sound).2

/-! ## The statement -/

variable {arrival : Arrival} {body : List Byte}

theorem exec_portReset (h : Admitted s d arrival body) :
    exec (.portReset d ⟨pair, arrival⟩ body) s =
      .next ((s.setPort d (heardOn s.ports[d] pair)).ownFrame d pair kindPortReset 0 body fun u => u.actPortReset d pair) :=
  congrArg _ (takeFrame_admitted h)

theorem heardOn_line (q : Port) (pair : Pair) :
    SameLine q (heardOn q pair) ∧ (heardOn q pair).inTransmission = q.inTransmission ∧ (heardOn q pair).lastGood = pair := by
  cases pair <;> exact ⟨⟨rfl, rfl, rfl⟩, rfl, rfl⟩

/-- Settles O31: the orders go before the grants close, so the district wins no bay and only its pumps' news can reach its port. -/
theorem portResetFrameClearsTheDistrict : Obligations.PortResetFrameClearsTheDistrict := by
  unfold Obligations.PortResetFrameClearsTheDistrict
  intro d pair arrival body s
  refine ⟨fun admitted enabled bounded portions => ?_, fun admitted some => ⟨_, exec_portReset admitted, ?_⟩,
    fun admitted disabled => ⟨_, exec_portReset admitted, ?_⟩⟩
  · refine ⟨(resetState (s.setPort d (heardOn s.ports[d] pair)) d pair).settle (s.setPort d (heardOn s.ports[d] pair)) {},
      (exec_portReset admitted).trans (congrArg _ ((if_neg fun no => no rfl).trans (if_neg ?_))), ?_⟩
    · show ¬s.settings.districts[d].enabled = false
      rw [enabled]
      decide
    obtain ⟨running, -⟩ := admitted
    obtain ⟨line, sent, lastGood⟩ := heardOn_line s.ports[d] pair
    have port : (s.setPort d (heardOn s.ports[d] pair)).ports[d] = heardOn s.ports[d] pair := State.setPort_self
    have line' : (heardOn s.ports[d] pair).sending = s.ports[d].sending := line.2.1
    have running : (s.setPort d (heardOn s.ports[d] pair)).isRunning := running
    have bounded : (s.setPort d (heardOn s.ports[d] pair)).ports[d].Bounded := by
      rw [port]
      exact Port.bounded_of_sameLine line ((queuesBounded_iff.1 bounded d).2)
    have heard : OnlyTouches [.ports] s (s.setPort d (heardOn s.ports[d] pair)) := State.setPort_touches
    have stays := resetState_running (pair := pair) (d := d) running
    obtain ⟨⟨orders, grants⟩, emptied, flags⟩ := restored_lasts.settle (old := s.setPort d (heardOn s.ports[d] pair)) (x := {})
      stays (resetState_restored bounded portions)
    obtain ⟨mask, interval, timer⟩ := settle_settings (old := s.setPort d (heardOn s.ports[d] pair)) (pair := pair) (d := d) running
    rw [port] at emptied
    refine ⟨heard.andThen (resetState_touches.andThen (State.settle_touches_settled ?_) (ds := settled)) (fun _ h => ?_), orders,
      grants, emptied.waiting, queued_lasts.settle stays resetState_reply, emptied.sent.trans sent, emptied.sending.trans line',
      emptied.lastGood.trans lastGood, mask, interval, timer, flags, fun sound records use => ?_⟩
    · rw [show (resetState _ d pair).loader.station = .running from stays]
      decide
    · revert h; revert ‹Block›; decide
    · rw [settle_untold running (servingPumpsSound_fit sound) records portions use, resetState_port]
      exact ⟨rfl, rfl⟩
  · have long : body.length ≠ 0 := fun none => some (List.length_eq_zero_iff.1 none)
    unfold State.ownFrame
    rw [if_pos long]
    exact answerFrame_becomes
  · have none : (s.setPort d (heardOn s.ports[d] pair)).settings.districts[d].enabled = false := disabled
    unfold State.ownFrame
    rw [if_neg (fun no => no rfl), if_pos none]
    exact answerFrame_becomes

end Sys2Proof.Safety
end

section
/-! SUPPORT. The settling of a command that has moved no pump (R107, R111, R124): only pumps move, and those called are PRIMING. -/

-- One proof after another, as in Laws: in parallel, the threads of so many outgrow the memory the check allows.
set_option Elab.async false

namespace Sys2Proof.Safety

open Sys2Proof Sys2Proof.Machine

variable {s t old : State} {p : PumpId} {b : BayId} {n : Nat} {x : Settling}

/-! ## Reports that bring no change -/

/-- A bay with a pump that serves is serviceable but for its gauge (R85). -/
theorem service_serves (serves : s.pumps[p].state.serves = true) :
    s.service (bayOf p) =
      if s.gauges.records[gaugeOf (bayOf p)].condition = .failed then .outOfService else .serviceable := by
  unfold State.service
  rw [if_pos (List.any_eq_true.2 ⟨p, mem_pumpsOf p, serves⟩)]

/-- No report since the `n`-th brings a change of serviceability. -/
def NoChange (n : Nat) (s : State) : Prop := n ≤ s.reports.length ∧ ∀ r ∈ s.reports.drop n, r.change = none

theorem noChange_onServing : OnServing (NoChange n) where
  moves {s p y} serves serves' h := by
    obtain ⟨r, reports, pump, -, -, before, after⟩ := State.moveTo_reports (s := s) (p := p) (x := y)
    obtain ⟨length, none⟩ := h
    have same : (s.moveTo p y).service (bayOf p) = s.service (bayOf p) := by
      rw [service_serves serves, service_serves (by rw [State.moveTo_self]; exact serves'), State.moveTo_touches.same .gauges]
    unfold NoChange
    rw [reports, List.length_append, List.drop_append_of_le_length length]
    refine ⟨by omega, fun r' hr => ?_⟩
    obtain old | new := List.mem_append.1 hr
    · exact none r' old
    · rw [List.mem_singleton.1 new, PumpReport.change, if_pos (by rw [after, before, same])]
  roster touched h := by
    unfold NoChange
    rw [touched.same .reports]
    exact h

/-- Where no report brings a change the arbiters have nothing to take. -/
theorem takeReports_noChange {was : State} : ∀ {rounds m : Nat}, n ≤ m → NoChange n s → State.takeReports was rounds m s = s
  | 0, _, _, _ => rfl
  | rounds + 1, m, later, h => by
    have none : (s.reports.drop m).filterMap PumpReport.change = [] :=
      List.filterMap_eq_nil_iff.2 fun r hr => h.2 r ((List.drop_sublist_drop_left _ later).subset hr)
    rw [State.takeReports, none]
    exact takeReports_noChange (rounds := rounds) h.1 h

theorem judgeReports_noChange (h : NoChange old.reports.length s) : s.judgeReports old = s := by
  have none : s.lostBays old = [] := by
    refine List.filter_eq_nil_iff.2 fun b _ => ?_
    simp only [Bool.and_eq_true, List.any_eq_true, beq_iff_eq]
    rintro ⟨-, r, hr, change⟩
    rw [h.2 r hr] at change
    cases change
  rw [State.judgeReports, none, List.filterMap_nil, State.endPortions_nil]
  exact takeReports_noChange (le_refl _) h

/-! ## The Roster among fit pumps -/

/-- The Roster's calls and its consideration of a start, before the arbiters take what came of them (R107, R111). -/
def rosterTurn (s old : State) (x : Settling) : State :=
  let t := s.holdCeiling.callPumps old x.callAll
  if x.consider || decide s.ceilingChanged || (t.reportsSince old).any PumpReport.triggers
      || allBays.any fun y => t.grantIsNew old y
  then t.considerStart x.stopped
  else t

/-- What survives the moves of fit pumps survives the Roster's turn. -/
theorem rosterTurn_keeps {P : State → Prop} (k : OnServing P) (fit : AllFit s) (h : P s) :
    P (rosterTurn s old x) ∧ AllFit (rosterTurn s old x) := by
  have both : OnServing fun t => P t ∧ AllFit t :=
    { moves := fun serves serves' h => ⟨k.moves serves serves' h.1, fit_onServing.moves serves serves' h.2⟩
      roster := fun touched h => ⟨k.roster touched h.1, fit_onServing.roster touched h.2⟩ }
  have called : P (s.holdCeiling.callPumps old x.callAll) ∧ AllFit (s.holdCeiling.callPumps old x.callAll) :=
    each_keeps (P := fun t => P t ∧ AllFit t) (fun p _ t h => both.rosterCall (h.2 p) h)
      (both.roster State.holdCeiling_touches ⟨h, fit⟩)
  unfold rosterTurn
  dsimp only
  split
  · unfold State.considerStart
    split
    · split
      · exact both.requestStart (called.2 _) called
      · exact called
    · exact called
  · exact called

/-- Calls and starts of fit pumps bring the arbiters nothing (R85, R124). -/
theorem settleRoster_fit (fit : AllFit s) : s.settleRoster old x = (rosterTurn s old x).withReports [] := by
  have none : NoChange s.reports.length (rosterTurn s old x) :=
    (rosterTurn_keeps noChange_onServing fit ⟨le_refl _, fun r hr => by rw [List.drop_length] at hr; cases hr⟩).1
  exact congrArg (fun t => State.withReports t []) (takeReports_noChange (le_refl _) none)

/-- Where a command has moved no pump, the arbiters have nothing to take before the Roster acts (R124). -/
theorem settle_unmoved (running : s.isRunning) (reports : s.reports = old.reports) : s.settle old x = s.settleRoster old x := by
  have none : NoChange old.reports.length s :=
    ⟨le_of_eq (congrArg List.length reports.symm), fun r hr => by rw [reports, List.drop_length] at hr; cases hr⟩
  have stays : s.leaveChecking = s := if_neg fun c => by
    rw [running] at c
    cases c.1
  rw [State.settle, judgeReports_noChange none, stays]

theorem rosterTurn_touches (fit : AllFit s) : OnlyTouches moveParts s (rosterTurn s old x) :=
  (rosterTurn_keeps (P := fun t => OnlyTouches moveParts s t)
    { moves := fun _ _ h => h.andThen State.moveTo_touches (fun _ h => h) fun _ h => h
      roster := fun touched h => h.andThen touched (fun _ h => h) } fit .keep).1

/-! ## Calls -/

/-- What an element of a list brings about, and the others keep, stands after the list. The predicates count the elements that
are still to come. -/
theorem each_reaches {α : Type} {I Q : Nat → State → Prop} {f : State → α → State} {a : α}
    (keeps : ∀ n y t, I (n + 1) t → I n (f t y)) (brings : ∀ n t, I (n + 1) t → Q n (f t a))
    (stays : ∀ n y t, Q (n + 1) t → Q n (f t y)) : ∀ {xs : List α} {s : State}, a ∈ xs → I xs.length s → Q 0 (s.each xs f)
  | [], _, no, _ => by cases no
  | y :: ys, s, mem, h => by
    have after : ∀ {zs : List α} {t : State}, Q zs.length t → Q 0 (t.each zs f) := by
      intro zs
      induction zs with
      | nil => exact id
      | cons z zs ih => exact fun h => ih (stays _ z _ h)
    obtain rfl | later := List.mem_cons.1 mem
    · exact after (zs := ys) (brings _ s h)
    · exact each_reaches keeps brings stays (xs := ys) later (keeps _ y s h)

theorem called_of_pump (same : t.pumps[p] = s.pumps[p]) {u : State} (h : Called p u s) : Called p u t := by
  unfold Called at *
  rw [same]
  exact h

/-- A pump that has been called is not IDLE. -/
theorem called_busy (h : Called p s t) : t.pumps[p].state ≠ .idle := by
  intro idle
  unfold Called at h
  split at h
  · obtain primed | counts := h
    · rw [primed] at idle; cases idle
    · rw [idle] at counts; cases counts
  · rw [h] at idle; cases idle

/-- The call of a fit pump in IDLE (R127). -/
theorem rosterCall_called (fit : Fit t p) (may : t.mayCall p) (idle : t.pumps[p].state = .idle) (feeder : t.pins.feederOk = true)
    (touched : OnlyTouches moveParts s t) (same : t.pumps[p] = s.pumps[p]) : Called p s (t.rosterCall p) := by
  have cool : t.pins.hot[p] = false := (fit (by rw [idle]; rfl)).1
  have pins : t.pins = s.pins := touched.same .pins
  have settings : t.settings = s.settings := touched.same .settings
  unfold State.rosterCall State.callPump
  rw [if_pos may, if_pos ⟨idle, feeder⟩, State.toPriming_cool cool, pins]
  unfold Called
  split
  · exact .inl (by rw [State.moveTo_self])
  · rw [State.moveTo_self, idle, same, settings]
    rfl

/-- A PRIMED pump that is asked to start is STARTING or LIFTING, or stays PRIMED (R113, R129). -/
theorem requestStart_primed (fit : Fit s p) (primed : s.pumps[p].state = .primed) :
    (s.requestStart p).pumps[p].state = .primed ∨ (s.requestStart p).pumps[p].state.counts = true := by
  have cool : s.pins.hot[p] = false := (fit (by rw [primed]; rfl)).1
  have pins : ((((s.setOutstanding (some p)).moveTo p .starting).giveNumber p).setOutstanding none).pins = s.pins :=
    State.moveTo_touches.same .pins
  unfold State.requestStart
  dsimp only
  split
  · rw [State.afterStarting_cool (by rw [pins]; exact cool)]
    refine .inr ?_
    split
    · rw [State.moveTo_self]
      rfl
    · show ((s.setOutstanding (some p)).moveTo p .starting).pumps[p].state.counts = true
      rw [State.moveTo_self]
      rfl
  · exact .inl primed

/-- A pump that has been called may be started, where it is PRIMED (R111, R129). -/
theorem requestStart_called {q : PumpId} (fit : Fit t q) (h : Called p s t) : Called p s (t.requestStart q) := by
  by_cases this : q = p
  · subst this
    by_cases primed : t.pumps[q].state = .primed
    · have pin : s.pins.primed[q] = true := by
        by_contra no
        rw [Called, if_neg no] at h
        rw [h] at primed
        cases primed
      rw [Called, if_pos pin]
      exact requestStart_primed fit primed
    · have stands : t.requestStart q = (t.setOutstanding (some q)).setOutstanding none := if_neg fun c => primed c.1
      rw [stands]
      exact called_of_pump (s := t) rfl h
  · exact called_of_pump (State.requestStart_others p (Ne.symm this)) h

/-- The state of a station in which the Roster is calling: none but pumps have moved. -/
structure Calling (s t : State) : Prop where
  touched : OnlyTouches moveParts s t
  fit : AllFit t

theorem calling_onServing : OnServing (Calling s) where
  moves serves serves' h :=
    ⟨h.touched.andThen State.moveTo_touches (fun _ h => h) fun _ h => h, fit_onServing.moves serves serves' h.fit⟩
  roster touched h := ⟨h.touched.andThen touched (fun _ h => h), fit_onServing.roster touched h.fit⟩

theorem mayCall_congr (touched : OnlyTouches moveParts s t) (h : s.mayCall p) : t.mayCall p := by
  unfold State.mayCall State.isRunning State.grantOf State.aboveStart State.bayLevel at *
  rw [touched.same .loader, touched.same .arbiters, touched.same .gauges, touched.same .settings]
  exact h

theorem rosterCall_busy {q : PumpId} (busy : t.pumps[q].state ≠ .idle) : t.rosterCall q = t := by
  unfold State.rosterCall State.callPump
  split
  · exact if_neg fun c => busy c.1
  · rfl

theorem rosterCall_others {q : PumpId} : OtherPumpsSame q t (t.rosterCall q) := by
  unfold State.rosterCall
  split
  · exact State.callPump_others
  · exact fun _ _ => rfl

/-- A pump that has been called is not called again. -/
theorem rosterCall_stays {q : PumpId} (h : Called p s t) : Called p s (t.rosterCall q) := by
  by_cases this : q = p
  · rw [this, rosterCall_busy (called_busy h)]
    exact h
  · exact called_of_pump (rosterCall_others p (Ne.symm this)) h

/-- A pump in IDLE of a bay whose grant is new is called, where its level and the supply allow it (R107, R127). -/
theorem rosterTurn_called (fit : AllFit s) (may : s.mayCall p) (idle : s.pumps[p].state = .idle) (feeder : s.pins.feederOk = true)
    (new : s.grantIsNew old (bayOf p) = true) : Called p s (rosterTurn s old x) := by
  have start : Calling s s.holdCeiling := ⟨State.holdCeiling_touches.mono, fit.of_touches State.holdCeiling_touches⟩
  have arbiters : s.holdCeiling.arbiters = s.arbiters := State.holdCeiling_touches.same .arbiters
  have picked : p ∈ allPumps.filter fun q =>
      x.callAll || s.holdCeiling.idleEntered old || s.holdCeiling.grantIsNew old (bayOf q) := by
    refine List.mem_filter.2 ⟨mem_allPumps p, ?_⟩
    have same : s.holdCeiling.grantIsNew old (bayOf p) = true := by
      unfold State.grantIsNew State.grantOf at *
      rw [arbiters]
      exact new
    rw [same, Bool.or_true]
  have called : Calling s (s.holdCeiling.callPumps old x.callAll) ∧ Called p s (s.holdCeiling.callPumps old x.callAll) := by
    have calls (t : State) (h : Calling s t ∧ (t.pumps[p] = s.pumps[p] ∨ Called p s t)) : Called p s (t.rosterCall p) := by
      obtain ⟨⟨touched, fit⟩, same | called⟩ := h
      · exact rosterCall_called (fit p) (mayCall_congr touched may) (by rw [same]; exact idle)
          (by rw [touched.same .pins]; exact feeder) touched same
      · exact rosterCall_stays called
    have calling (t : State) (q : PumpId) (h : Calling s t) : Calling s (t.rosterCall q) := calling_onServing.rosterCall (h.fit q) h
    refine each_reaches (I := fun _ t => Calling s t ∧ (t.pumps[p] = s.pumps[p] ∨ Called p s t))
      (Q := fun _ t => Calling s t ∧ Called p s t) (fun _ q t h => ⟨calling t q h.1, ?_⟩)
      (fun _ t h => ⟨calling t p h.1, calls t h⟩) (fun _ q t h => ⟨calling t q h.1, rosterCall_stays h.2⟩) picked
      ⟨start, .inl ?_⟩
    · by_cases this : q = p
      · exact .inr (by rw [this]; exact calls t h)
      · exact h.2.imp (rosterCall_others p (Ne.symm this)).trans rosterCall_stays
    · rw [State.holdCeiling_touches.same .pumps]
  unfold rosterTurn
  dsimp only
  split
  · unfold State.considerStart
    split
    · split
      · exact requestStart_called (called.1.fit _) called.2
      · exact called.2
    · exact called.2
  · exact called.2

end Sys2Proof.Safety
end

section
/-! SUPPORT. LIFT (R63, R69, R84, R87, R88, R107): a grant that starts, and what later starts leave of it. -/

-- One proof after another, as in Laws: in parallel, the threads of so many outgrow the memory the check allows.
set_option Elab.async false

namespace Sys2Proof.Safety

open Sys2Proof Sys2Proof.Machine

variable {s t u : State} {b x : BayId} {d : DistrictId} {w : Contender} {v : Service}

/-! ## The start of a grant (R88) -/

theorem startGrant_arbiters : (s.startGrant b w).arbiters = (s.installGrant b w).arbiters := by
  unfold State.startGrant
  rw [State.reportTo_touches.same .arbiters, State.openGates_touches.same .arbiters, State.setPortion_touches.same .arbiters]

theorem startGrant_orders : (s.startGrant b w).orders = (s.setPortion w.district w.portion.tag b .inService).orders := by
  unfold State.startGrant
  rw [State.reportTo_touches.same .orders, State.openGates_touches.same .orders]
  have same : (s.installGrant b w).orders = s.orders := State.installGrant_touches.same .orders
  unfold State.setPortion State.mapPortions State.setOrders
  rw [same]
  rfl

theorem startGrant_grants :
    ∃ f : Grant → Grant, (∀ g, SameGrant g (f g)) ∧ (s.arbiters.counter < Config.wordBound → f = id)
      ∧ (s.startGrant b w).grantOf x = (if b = x then some (newGrant s w) else s.grantOf x).map f := by
  unfold State.grantOf at *
  rw [startGrant_arbiters]
  exact installGrant_grants

/-- The winner's grant, with the counter's number (R84, R88). -/
theorem startGrant_new :
    ∃ m, (s.startGrant b w).grantOf b = some { newGrant s w with number := m }
      ∧ (s.arbiters.counter < Config.wordBound → m = s.arbiters.counter) := by
  obtain ⟨f, kept, same, grants⟩ := startGrant_grants (s := s) (b := b) (x := b) (w := w)
  refine ⟨(f (newGrant s w)).number, ?_, fun room => by rw [same room]; rfl⟩
  rw [grants, if_pos rfl, Option.map_some, (kept (newGrant s w)).eq]

/-- The other bays' grants keep all but, when the counter is at its bound, their numbers (R84). -/
theorem startGrant_standing {g : Grant} (other : b ≠ x) (grant : s.grantOf x = some g) :
    ∃ m, (s.startGrant b w).grantOf x = some { g with number := m } ∧ (s.arbiters.counter < Config.wordBound → m = g.number) := by
  obtain ⟨f, kept, same, grants⟩ := startGrant_grants (s := s) (b := b) (x := x) (w := w)
  refine ⟨(f g).number, ?_, fun room => by rw [same room]; rfl⟩
  rw [grants, if_neg other, grant, Option.map_some, (kept g).eq]

theorem startGrant_pointer :
    (s.startGrant b w).arbiters.bays[x].pointer = if b = x then w.district else s.arbiters.bays[x].pointer := by
  have set (y : Bay) : (s.setBay b y).arbiters.bays[x].pointer = if b = x then y.pointer else s.arbiters.bays[x].pointer := by
    show (s.arbiters.bays.set b y)[x].pointer = _
    rw [set_get]
    split <;> rfl
  rw [startGrant_arbiters]
  unfold State.installGrant
  dsimp only
  split
  · exact set _
  · simp only [State.renumberGrants, State.withArbiters, Fin.getElem_fin, Vector.getElem_ofFn]
    exact set _

theorem startGrant_counter (room : s.arbiters.counter < Config.wordBound) :
    (s.startGrant b w).arbiters.counter = s.arbiters.counter + 1 := by
  rw [startGrant_arbiters]
  unfold State.installGrant
  dsimp only
  rw [if_pos room]
  rfl

/-- A grant start concerns the candidates of its own bay alone (R72). -/
theorem startGrant_candidate (other : x ≠ b) : (s.startGrant b w).candidate d x = s.candidate d x := by
  have kept (c : OrderClass) (p : Portion) :
      (if p.named w.portion.tag b then { p with state := .inService } else p).waits c x = p.waits c x := by
    split
    · rename_i named
      simp only [Portion.named, Bool.and_eq_true, beq_iff_eq] at named
      have away : (p.bay == x) = false := by
        rw [named.2]
        exact beq_eq_false_iff_ne.2 (Ne.symm other)
      simp [Portion.waits, away]
    · rfl
  have found (c : OrderClass) (queue : List Portion) :
      ((queue.map fun p => if p.named w.portion.tag b then { p with state := .inService } else p).find? fun p => p.waits c x)
        = queue.find? fun p => p.waits c x := by
    induction queue with
    | nil => rfl
    | cons p rest ih =>
      rw [List.map_cons, List.find?_cons, List.find?_cons, kept, ih]
      split
      · rename_i waits
        have bay := (Portion.waits_iff.1 waits).2.1
        have stays : ¬p.named w.portion.tag b = true := by
          simp only [Portion.named, Bool.and_eq_true, beq_iff_eq, not_and]
          exact fun _ here => other (bay.symm.trans here)
        rw [if_neg stays]
      · rfl
  unfold State.candidate
  rw [startGrant_orders]
  unfold State.setPortion
  rw [State.mapPortions_districts]
  split
  · rename_i same
    subst same
    dsimp only
    rw [found, found]
  · rfl

/-! ## Gates on their way open -/

/-- The gate is open or opening, unless it is jammed (R147). -/
def GoesOpen (t : State) (i : IntakeId) : Prop :=
  t.gates[i].state = .opened ∨ t.gates[i].state = .opening ∨ t.gates[i].state = .jammed

theorem startOpening_goesOpen {i : IntakeId} : GoesOpen (s.startOpening i) i := by
  unfold State.startOpening GoesOpen
  split
  · exact .inl (by rw [State.setGate_self])
  · exact .inr (.inl (by rw [State.setGate_self]))

theorem openGate_goesOpen {i : IntakeId} : GoesOpen (s.openGate i) i := by
  unfold State.openGate
  split
  · exact startOpening_goesOpen
  · exact startOpening_goesOpen
  · exact .inr (.inl ‹_›)
  · exact .inl ‹_›
  · exact .inr (.inr ‹_›)

theorem openGate_keeps {i j : IntakeId} (h : GoesOpen s i) : GoesOpen (s.openGate j) i := by
  by_cases same : i = j
  · subst same
    exact openGate_goesOpen
  · unfold GoesOpen
    rw [State.openGate_others i same]
    exact h

theorem openGates_keeps {i : IntakeId} {xs : List IntakeId} (h : GoesOpen s i) : GoesOpen (s.openGates xs) i :=
  each_keeps (P := fun t => GoesOpen t i) (fun _ _ _ => openGate_keeps) h

theorem openGates_goesOpen {i : IntakeId} {xs : List IntakeId} (mem : i ∈ xs) : GoesOpen (s.openGates xs) i :=
  each_reaches (I := fun _ _ => True) (Q := fun _ t => GoesOpen t i) (fun _ _ _ _ => trivial) (fun _ _ _ => openGate_goesOpen)
    (fun _ _ _ => openGate_keeps) mem trivial

/-- A grant start opens its intakes, and closes none (R88). -/
theorem startGrant_goesOpen {i : IntakeId} (h : i ∈ w.portion.intakes ∨ GoesOpen s i) : GoesOpen (s.startGrant b w) i := by
  have before : GoesOpen s i → GoesOpen ((s.installGrant b w).setPortion w.district w.portion.tag b .inService) i := by
    unfold GoesOpen
    rw [State.setPortion_touches.same .gates, State.installGrant_touches.same .gates]
    exact id
  have opened : GoesOpen (((s.installGrant b w).setPortion w.district w.portion.tag b .inService).openGates w.portion.intakes) i :=
    h.elim openGates_goesOpen fun h => openGates_keeps (before h)
  unfold GoesOpen State.startGrant at *
  rw [State.reportTo_touches.same .gates]
  exact opened

/-! ## A free bay that arbitrates, and one that has (R87, R88) -/

/-- The station while FREE bays arbitrate, `n` of them still to come: only what grants move has moved, and the grant numbers stay
below their bound. -/
structure Arbitrating (s : State) (n : Nat) (t : State) : Prop where
  touched : OnlyTouches grantParts s t
  flags : FlagsKept s t
  numbers : s.arbiters.counter + 100 ≤ 4294967295 → s.arbiters.counter ≤ t.arbiters.counter ∧ t.arbiters.counter + n ≤ 4294967295

/-- Bay `b` is FREE and contended for as from the queues of `u` (R87). -/
structure StillFree (b : BayId) (u s t : State) : Prop where
  free : t.grantOf b = none
  candidates : ∀ x : DistrictId, t.candidate x b = u.candidate x b
  pointer : t.arbiters.bays[b].pointer = s.arbiters.bays[b].pointer

/-- `GrantStarted` but for the calls of its pumps, which come later. -/
structure Started (b : BayId) (u s t : State) (h : Grant) (q : Portion) : Prop where
  grant : t.grantOf b = some h
  fresh : h.volume = 0 ∧ h.lifting = false
  number : s.arbiters.counter + 100 ≤ 4294967295 → s.arbiters.counter ≤ h.number
  pointer : t.arbiters.bays[b].pointer = h.district
  told : EventTaken .grantStart h.district s t
  candidate : u.candidate h.district b = some q
  tag : q.tag = h.tag
  portion : { q with state := .inService } ∈ t.orders.districts[h.district].queue
  opened : ∀ i ∈ q.intakes, GoesOpen t i
  best : ∀ x : DistrictId, ∀ c ∈ u.candidate x b, (c.cls = .urgent → q.cls = .urgent)
    ∧ (c.cls = .urgent ∨ q.cls ≠ .urgent →
        s.accounts.districts[x].credit ≤ s.accounts.districts[h.district].credit
        ∧ (s.accounts.districts[x].credit = s.accounts.districts[h.district].credit →
            h.district - (s.arbiters.bays[b].pointer + 1) ≤ x - (s.arbiters.bays[b].pointer + 1)))

variable {n : Nat} {h : Grant} {q : Portion}

theorem Arbitrating.later (now : Arbitrating s (n + 1) t) : Arbitrating s n t where
  touched := now.touched
  flags := now.flags
  numbers room := ⟨(now.numbers room).1, by have := (now.numbers room).2; omega⟩

theorem Arbitrating.room (now : Arbitrating s (n + 1) t) (room : s.arbiters.counter + 100 ≤ 4294967295) :
    t.arbiters.counter < Config.wordBound := by
  have := (now.numbers room).2
  unfold Config.wordBound
  omega

theorem Arbitrating.startGrant (now : Arbitrating s (n + 1) t) : Arbitrating s n (t.startGrant x w) where
  touched := now.touched.andThen State.startGrant_touches (fun _ h => h) fun _ h => h
  flags := now.flags.andThen State.startGrant_signals.toFlagsKept
  numbers room := by
    rw [startGrant_counter (now.room room)]
    have := now.numbers room
    omega

/-- An arbitration of a bay leaves the state, or starts a grant in it. -/
theorem arbitrateFree_cases {P : State → Prop} (stands : P t)
    (starts : ∀ w, t.grantOf x = none → t.winnerAt x (t.service x) = some w → P (t.startGrant x w)) : P (t.arbitrateFree x) := by
  unfold State.arbitrateFree State.arbitrateAt
  split
  · exact stands
  · rename_i free
    split
    · exact starts _ (Option.not_isSome_iff_eq_none.1 free) ‹_›
    · exact stands

theorem Arbitrating.arbitrateFree (now : Arbitrating s (n + 1) t) : Arbitrating s n (t.arbitrateFree x) :=
  arbitrateFree_cases now.later fun _ _ _ => now.startGrant

/-- Another bay's arbitration leaves a FREE bay as it is. -/
theorem StillFree.arbitrateFree (other : x ≠ b) (h : StillFree b u s t) : StillFree b u s (t.arbitrateFree x) := by
  refine arbitrateFree_cases h fun w _ _ => ⟨?_, fun y => ?_, ?_⟩
  · obtain ⟨f, -, -, grants⟩ := startGrant_grants (s := t) (b := x) (x := b) (w := w)
    rw [grants, if_neg other, h.free]
    rfl
  · exact (startGrant_candidate (Ne.symm other)).trans (h.candidates y)
  · rw [startGrant_pointer, if_neg other]
    exact h.pointer

/-- A standing grant stands through the arbitrations of the other bays (R84). -/
theorem grantStands_arbitrateFree {g : Grant} (h : GrantStands g b t) : GrantStands g b (t.arbitrateFree x) := by
  refine arbitrateFree_cases h fun w free _ => ?_
  obtain ⟨g', grant, same⟩ := h
  have other : x ≠ b := by
    rintro rfl
    rw [free] at grant
    cases grant
  obtain ⟨m, now, -⟩ := startGrant_standing (w := w) other grant
  exact ⟨_, now, same⟩

/-- GRANT_START is told to the port of the winner's district (R88). -/
theorem startGrant_told (now : Arbitrating s n t) (running : s.isRunning) : EventTaken .grantStart w.district s (t.startGrant b w) := by
  have before : FlagsKept t (((t.installGrant b w).setPortion w.district w.portion.tag b .inService).openGates w.portion.intakes) :=
    (SignalsKept.of_touches State.installGrant_touches).toFlagsKept.andThen
      ((SignalsKept.of_touches State.setPortion_touches).toFlagsKept.andThen State.openGates_signals.toFlagsKept)
  have kept := now.flags.andThen before
  exact (State.reportTo_taken (kept.running running)).since kept

/-- The winner's portion goes IN SERVICE where it stands (R88). -/
theorem startGrant_portion {p : Portion} (member : p ∈ s.orders.districts[w.district].queue) (bay : p.bay = b)
    (named : p.tag = w.portion.tag := by rfl) :
    { p with state := .inService } ∈ (s.startGrant b w).orders.districts[w.district].queue := by
  rw [startGrant_orders]
  unfold State.setPortion
  rw [State.mapPortions_districts, if_pos rfl]
  refine List.mem_map.2 ⟨p, member, if_pos ?_⟩
  simp [Portion.named, bay, named]

/-- Portions of other bays stay as they are. -/
theorem startGrant_keeps {p : Portion} (member : p ∈ s.orders.districts[d].queue) (other : p.bay ≠ b) :
    p ∈ (s.startGrant b w).orders.districts[d].queue := by
  rw [startGrant_orders]
  unfold State.setPortion
  rw [State.mapPortions_districts]
  split
  · refine List.mem_map.2 ⟨p, member, if_neg ?_⟩
    simp [Portion.named, other]
  · exact member

/-- A FREE bay that can be served and is contended for starts a grant (R87, R88). -/
theorem StillFree.starts (now : Arbitrating s (n + 1) t) (free : StillFree b u s t) (running : s.isRunning)
    (funds : s.accounts.exhausted = false) (serves : s.service b = .serviceable) (contended : ∃ y, u.candidate y b ≠ none) :
    ∃ h q, Started b u s (t.arbitrateFree b) h q := by
  have accounts : t.accounts = s.accounts := now.touched.same .accounts
  have service : t.service b = s.service b := State.service_congr (now.touched.same .gauges) (now.touched.same .pumps)
  have may : t.MayServe b (t.service b) := by
    refine ⟨?_, by rw [accounts]; exact funds, ?_⟩
    · rw [now.touched.same .loader]
      exact running
    · rw [free.free, service]
      exact serves
  obtain ⟨w, won⟩ : ∃ w, t.winnerAt b (t.service b) = some w := by
    refine Option.ne_none_iff_exists'.1 fun none => ?_
    obtain no | no := State.winnerAt_none none
    · exact no may
    · obtain ⟨y, some⟩ := contended
      exact some ((free.candidates y).symm.trans (no y))
  have started : t.arbitrateFree b = t.startGrant b w := by
    unfold State.arbitrateFree State.arbitrateAt
    rw [free.free, won]
    rfl
  obtain ⟨candidate, credit, urgent, greatest⟩ := State.winnerAt_wins won
  obtain ⟨member, -, bay, -⟩ := State.candidate_waits candidate
  obtain ⟨m, grant, number⟩ := startGrant_new (s := t) (b := b) (w := w)
  rw [started]
  refine ⟨{ newGrant t w with number := m }, w.portion, grant, ⟨rfl, rfl⟩, fun room => ?_, ?_, startGrant_told now running,
    (free.candidates _).symm.trans candidate, rfl, startGrant_portion member bay, fun i hi => startGrant_goesOpen (.inl hi),
    fun y c hc => ?_⟩
  · show s.arbiters.counter ≤ m
    rw [number (now.room room)]
    exact (now.numbers room).1
  · rw [startGrant_pointer, if_pos rfl]
    rfl
  · have hc : t.candidate y b = some c := (free.candidates y).trans hc
    rw [accounts, free.pointer] at greatest
    rw [accounts] at credit
    rw [credit] at greatest
    exact ⟨urgent y c hc, greatest y c hc⟩

/-- What has started in a bay stands through later arbitrations (R84, R88). -/
theorem Started.arbitrateFree (now : Arbitrating s (n + 1) t) (started : Started b u s t h q) :
    ∃ h, Started b u s (t.arbitrateFree x) h q := by
  refine arbitrateFree_cases (P := fun t => ∃ h, Started b u s t h q) ⟨h, started⟩ fun w free _ => ?_
  obtain ⟨grant, fresh, number, pointer, told, candidate, tag, portion, opened, best⟩ := started
  have other : x ≠ b := by
    rintro rfl
    rw [free] at grant
    cases grant
  obtain ⟨m, grant', kept⟩ := startGrant_standing (w := w) other grant
  refine ⟨{ h with number := m }, grant', fresh, fun room => ?_, ?_, told.stays State.startGrant_signals.toFlagsKept, candidate, tag,
    ?_, fun i hi => startGrant_goesOpen (.inr (opened i hi)), best⟩
  · show s.arbiters.counter ≤ m
    rw [kept (now.room room)]
    exact number room
  · rw [startGrant_pointer, if_neg other]
    exact pointer
  · refine startGrant_keeps portion ?_
    show q.bay ≠ x
    rw [(State.candidate_waits candidate).2.2.1]
    exact Ne.symm other

end Sys2Proof.Safety
end

section
/-! SUPPORT. LIFT (R63 to R69): refused, or entered and offered to the bays. -/

-- One proof after another, as in Laws: in parallel, the threads of so many outgrow the memory the check allows.
set_option Elab.async false

namespace Sys2Proof.Safety

open Sys2Proof Sys2Proof.Machine

variable {s t : State} {d : DistrictId} {pair : Pair} {arrival : Arrival} {body : List Byte}

/-! ## The judgement -/

theorem decodeIntakes_congr (settings : t.settings = s.settings) (orders : t.orders = s.orders) :
    ∀ (numbers : List Nat) (kept : List (IntakeId × BayId)), t.decodeIntakes d kept numbers = s.decodeIntakes d kept numbers
  | [], _ => rfl
  | n :: rest, kept => by
    have mapped : t.mapped n = s.mapped n := by unfold State.mapped; rw [settings]
    have status : t.laterStatus d kept n = s.laterStatus d kept n := by
      unfold State.laterStatus
      rw [mapped, orders]
    unfold State.decodeIntakes
    dsimp only
    rw [status, mapped]
    simp only [decodeIntakes_congr settings orders rest]

/-- A LIFT is judged by settings and orders alone (R63 to R68). -/
theorem judgeLift_congr (settings : t.settings = s.settings) (orders : t.orders = s.orders) :
    t.judgeLift d body = s.judgeLift d body := by
  have first (n : Nat) : t.firstRefusal d n = s.firstRefusal d n := by
    unfold State.firstRefusal State.mapped
    rw [settings, orders]
  unfold State.judgeLift State.judgeIntakes
  rw [settings, orders]
  simp only [first, decodeIntakes_congr settings orders]

theorem judgeLift_heard : (s.setPort d (heardOn s.ports[d] pair)).judgeLift d body = s.judgeLift d body := judgeLift_congr rfl rfl

/-! ## The order that is entered -/

/-- The state after an accepted LIFT has been entered and answered (R69). -/
def enteredState (s : State) (d : DistrictId) (pair : Pair) (o : Order) (ps : List Portion) (xs : List IntakeStatus) : State :=
  ((s.setPort d (heardOn s.ports[d] pair)).enterOrder d o ps).answerFrame d pair kindLift o.tag (acceptOutcome xs) xs

/-- The bays it waits on have arbitrated (R69, R87). -/
def offeredState (s : State) (d : DistrictId) (pair : Pair) (o : Order) (ps : List Portion) (xs : List IntakeStatus) : State :=
  (enteredState s d pair o ps xs).each (pendingBays ps) fun t b => t.arbitrateFree b

variable {o : Order} {ps : List Portion} {xs : List IntakeStatus}

theorem enteredState_touches : OnlyTouches [.orders, .ports] s (enteredState s d pair o ps xs) := by
  unfold enteredState
  exact (State.setPort_touches.andThen State.enterOrder_touches (ds := [.orders, .ports])).andThen State.answerFrame_touches

theorem offeredState_touches : OnlyTouches grantParts s (offeredState s d pair o ps xs) :=
  enteredState_touches.andThen (.each (fun _ _ => State.arbitrateFree_touches) _ _)

theorem enteredState_orders :
    (enteredState s d pair o ps xs).orders.districts[d] =
      { s.orders.districts[d] with
        table := s.orders.districts[d].table ++ [o], queue := s.orders.districts[d].queue ++ ps } := by
  unfold enteredState
  rw [State.answerFrame_touches.same .orders]
  unfold State.enterOrder
  rw [State.setOrders_districts, if_pos rfl]
  rfl

theorem exec_lift_refused {r : ReplyOutcome} (h : Admitted s d arrival body) (judged : s.judgeLift d body = .refused r) :
    exec (.lift d ⟨pair, arrival⟩ body) s =
      .next ((s.setPort d (heardOn s.ports[d] pair)).answerFrame d pair kindLift (body.headD 0) r []) := by
  refine (congrArg Host.Outcome.next (takeFrame_admitted h)).trans ?_
  rw [State.actLift, judgeLift_heard, judged]
  rfl

theorem exec_lift_accepted (h : Admitted s d arrival body) (judged : s.judgeLift d body = .accepted o ps xs) :
    exec (.lift d ⟨pair, arrival⟩ body) s =
      .next ((offeredState s d pair o ps xs).settle (s.setPort d (heardOn s.ports[d] pair)) {}) := by
  refine (congrArg Host.Outcome.next (takeFrame_admitted h)).trans ?_
  rw [State.actLift, judgeLift_heard, judged]
  rfl

/-- The district's table, and its queue but for what becomes of its portions. -/
def Holds (d : DistrictId) (table : List Order) (queue : List Portion) (s : State) : Prop :=
  s.orders.districts[d].table = table
    ∧ s.orders.districts[d].queue.map (fun p => { p with state := .pending }) = queue.map fun p => { p with state := .pending }

theorem Holds.mapPortions {table : List Order} {queue : List Portion} {x : DistrictId} {test : Portion → Bool} {v : PortionState}
    (h : Holds d table queue s) : Holds d table queue (s.mapPortions x test fun p => { p with state := v }) := by
  unfold Holds
  rw [State.mapPortions_districts]
  split
  · refine ⟨h.1, Eq.trans ?_ h.2⟩
    rw [List.map_map]
    refine List.map_congr_left fun p _ => ?_
    dsimp only [Function.comp]
    split <;> rfl
  · exact h

theorem holds_stands {table : List Order} {queue : List Portion} : Stands Anyone (Holds d table queue) where
  moved touched h := by unfold Holds; rw [touched.same .orders]; exact h
  told _ h := by unfold Holds; rw [State.reportTo_touches.same .orders]; exact h
  opened h := by unfold Holds; rw [State.openGate_touches.same .orders]; exact h
  closed h := by unfold Holds; rw [State.closeGate_touches.same .orders]; exact h
  freed := id
  returned h := h.mapPortions
  granted h _ := Holds.mapPortions (by unfold Holds; rw [State.installGrant_touches.same .orders]; exact h)
  fault _ := trivial
  unserved _ := trivial
  holder _ _ := trivial
  winner _ _ := trivial

theorem acceptOutcome_eq :
    acceptOutcome xs = if ∀ x ∈ xs, x = IntakeStatus.ok then .accepted else .acceptedPartial := by
  unfold acceptOutcome
  simp only [List.all_eq_true, beq_iff_eq]

theorem answerFrame_flags {kind tag : Byte} {r : ReplyOutcome} : FlagsKept s (s.answerFrame d pair kind tag r xs) := by
  unfold State.answerFrame State.queueReply
  exact (State.setPort_signals (x := s.ports[d].join _) ⟨⟨rfl, rfl, fun _ h => h⟩, rfl⟩).toFlagsKept

theorem enteredState_arbitrating {n : Nat} (few : n ≤ 8) : Arbitrating s n (enteredState s d pair o ps xs) where
  touched := enteredState_touches.mono
  flags := by
    have heard : FlagsKept s (s.setPort d (heardOn s.ports[d] pair)) :=
      (State.setPort_signals (by cases pair <;> exact ⟨.refl _, rfl⟩)).toFlagsKept
    have entered : FlagsKept s ((s.setPort d (heardOn s.ports[d] pair)).enterOrder d o ps) :=
      heard.andThen (FlagsKept.of_touches State.enterOrder_touches)
    exact entered.andThen answerFrame_flags
  numbers room := by
    have same : (enteredState s d pair o ps xs).arbiters = s.arbiters := enteredState_touches.same .arbiters
    rw [same]
    omega

/-- A bay that holds a grant keeps it. -/
theorem offered_stands {b : BayId} {g : Grant} (grant : s.grantOf b = some g) :
    GrantStands g b (offeredState s d pair o ps xs) := by
  refine each_keeps (fun _ _ _ => grantStands_arbitrateFree) ⟨g, ?_, rfl, rfl, rfl, rfl⟩
  show (enteredState s d pair o ps xs).grantOf b = some g
  unfold State.grantOf at *
  rw [enteredState_touches.same .arbiters]
  exact grant

section
variable (running : s.isRunning)
include running

theorem offeredState_running : (offeredState s d pair o ps xs).isRunning := by
  rw [State.isRunning, offeredState_touches.same .loader]
  exact running

theorem offeredState_settles :
    (offeredState s d pair o ps xs).settle (s.setPort d (heardOn s.ports[d] pair)) {}
      = (offeredState s d pair o ps xs).settleRoster (s.setPort d (heardOn s.ports[d] pair)) {} :=
  settle_unmoved (offeredState_running running) (offeredState_touches.same .reports)

/-- What stands through the arbitrations and the Roster's turn stands when the LIFT has settled. -/
theorem lift_stands {P : State → Prop} (k : Stands Anyone P) (h : P (enteredState s d pair o ps xs)) :
    P ((offeredState s d pair o ps xs).settle (s.setPort d (heardOn s.ports[d] pair)) {}) := by
  rw [offeredState_settles running]
  exact k.settleRoster (each_keeps (fun _ _ _ => k.arbitrateAt) h)

theorem lift_touches {old : State} : OnlyTouches settled s ((offeredState s d pair o ps xs).settle old {}) := by
  refine offeredState_touches.andThen (State.settle_touches_settled ?_)
  rw [offeredState_running running]
  decide

/-- The order and its portions are entered (R69). -/
theorem lift_holds :
    Holds d (s.orders.districts[d].table ++ [o]) (s.orders.districts[d].queue ++ ps)
      ((offeredState s d pair o ps xs).settle (s.setPort d (heardOn s.ports[d] pair)) {}) := by
  refine lift_stands running holds_stands ?_
  unfold Holds
  rw [enteredState_orders]
  exact ⟨rfl, rfl⟩

/-- The order is answered (R63, R65). -/
theorem lift_answered :
    TxEntry.reply
        { pair := pair, kind := kindLift, tag := o.tag, statuses := xs,
          outcome := if ∀ x ∈ xs, x = IntakeStatus.ok then .accepted else .acceptedPartial }
      ∈ ((offeredState s d pair o ps xs).settle (s.setPort d (heardOn s.ports[d] pair)) {}).ports[d].queue := by
  refine lift_stands (P := fun t => _ ∈ t.ports[d].queue) running queued_lasts.stands ?_
  unfold enteredState State.answerFrame State.queueReply
  rw [State.setPort_self, acceptOutcome_eq]
  exact List.mem_append_right _ (List.mem_singleton_self _)

/-! ## The bays it is offered to (R69, R87, R88) -/

/-- A FREE and serviceable bay on which a portion joined starts a grant (R69, R88). -/
theorem offered_started {p : Portion} (few : ps.length ≤ 8) (mem : p ∈ ps) (pending : p.state = .pending)
    (free : s.grantOf p.bay = none) (serves : s.service p.bay = .serviceable) (funds : s.accounts.exhausted = false) :
    ∃ h q, Started p.bay (s.enterOrder d o ps) s (offeredState s d pair o ps xs) h q := by
  have offered : p.bay ∈ pendingBays ps := List.mem_map.2 ⟨p, List.mem_filter.2 ⟨mem, beq_iff_eq.2 pending⟩, rfl⟩
  have count : (pendingBays ps).length ≤ 8 := by
    unfold pendingBays
    rw [List.length_map]
    exact (List.length_filter_le _ _).trans few
  have still : StillFree p.bay (s.enterOrder d o ps) s (enteredState s d pair o ps xs) := by
    have same : (enteredState s d pair o ps xs).arbiters = s.arbiters := enteredState_touches.same .arbiters
    refine ⟨?_, fun _ => rfl, by rw [same]⟩
    unfold State.grantOf at *
    rw [same]
    exact free
  have contended : ∃ y, (s.enterOrder d o ps).candidate y p.bay ≠ none := by
    refine ⟨d, fun none => State.candidate_none.1 none p ?_ ⟨pending, rfl⟩⟩
    unfold State.enterOrder
    rw [State.setOrders_districts, if_pos rfl]
    exact List.mem_append_right _ mem
  let Begun (t : State) : Prop := ∃ h q, Started p.bay (s.enterOrder d o ps) s t h q
  have stays (n : Nat) (x : BayId) (t : State) (now : Arbitrating s (n + 1) t) (begun : Begun t) : Begun (t.arbitrateFree x) := by
    obtain ⟨h, q, started⟩ := begun
    obtain ⟨h', started'⟩ := started.arbitrateFree (x := x) now
    exact ⟨h', q, started'⟩
  have begins (n : Nat) (t : State) (now : Arbitrating s (n + 1) t) (still : StillFree p.bay (s.enterOrder d o ps) s t) :
      Begun (t.arbitrateFree p.bay) := still.starts now running funds serves contended
  refine (each_reaches (I := fun n t => Arbitrating s n t ∧ (StillFree p.bay (s.enterOrder d o ps) s t ∨ Begun t))
    (Q := fun n t => Arbitrating s n t ∧ Begun t) (f := fun t b => t.arbitrateFree b) (a := p.bay)
    (fun n x t h => ⟨h.1.arbitrateFree, ?_⟩) (fun n t h => ⟨h.1.arbitrateFree, h.2.elim (begins n t h.1) (stays n p.bay t h.1)⟩)
    (fun n x t h => ⟨h.1.arbitrateFree, stays n x t h.1 h.2⟩) offered ⟨enteredState_arbitrating count, .inl still⟩).2
  obtain ⟨now, still | begun⟩ := h
  · by_cases same : x = p.bay
    · exact .inr (same ▸ begins n t now still)
    · exact .inl (still.arbitrateFree same)
  · exact .inr (stays n x t now begun)

end

/-! ## After the Roster's turn (R107) -/

theorem GrantStands.of_touches {g : Grant} {b : BayId} (touched : OnlyTouches moveParts s t) (h : GrantStands g b s) :
    GrantStands g b t := by
  unfold GrantStands State.grantOf at *
  rw [touched.same .arbiters]
  exact h

/-- A grant that has started, and whose pumps have been called, is as `GrantStarted` says. -/
theorem Started.grantStarted {b : BayId} {u f : State} {h : Grant} {q : Portion} (started : Started b u s f h q)
    (accounts : f.accounts = s.accounts) (touched : OnlyTouches moveParts f t)
    (called : ∀ p : PumpId, bayOf p = b → s.pumps[p].state = .idle → s.pins.feederOk = true → s.aboveStart b = true → Called p s t) :
    GrantStarted b u s t := by
  obtain ⟨grant, fresh, number, pointer, told, candidate, tag, portion, opened, best⟩ := started
  refine ⟨h, ?_, fresh.1, fresh.2, number, ?_, ?_, ⟨q, candidate, tag, ⟨_, ?_, rfl⟩, ?_, ?_⟩, called⟩
  · unfold State.grantOf at *
    rw [touched.same .arbiters]
    exact grant
  · rw [touched.same .arbiters]
    exact pointer
  · unfold EventTaken at *
    rw [touched.same .ports]
    exact told
  · rw [touched.same .orders]
    exact portion
  · unfold GoesOpen at opened
    rw [touched.same .gates]
    exact opened
  · rw [touched.same .accounts, accounts]
    exact best

/-- A LIFT settles by the Roster's turn alone, where its pumps are sound. -/
theorem lift_turns {old : State} (running : s.isRunning) (pumps : ServingPumpsSound s)
    (same : old.reports = s.reports := by rfl) :
    OnlyTouches moveParts (offeredState s d pair o ps xs) ((offeredState s d pair o ps xs).settle old {})
      ∧ ∀ p : PumpId, (offeredState s d pair o ps xs).mayCall p → s.pumps[p].state = .idle → s.pins.feederOk = true →
          (offeredState s d pair o ps xs).grantIsNew old (bayOf p) = true →
          Called p s ((offeredState s d pair o ps xs).settle old {}) := by
  have fit : AllFit (offeredState s d pair o ps xs) := (servingPumpsSound_fit pumps).of_touches offeredState_touches
  have reports : (offeredState s d pair o ps xs).reports = s.reports := offeredState_touches.same .reports
  have turn : (offeredState s d pair o ps xs).settle old {}
      = (rosterTurn (offeredState s d pair o ps xs) old {}).withReports [] :=
    (settle_unmoved (offeredState_running running) (reports.trans same.symm)).trans
      (settleRoster_fit fit)
  rw [turn]
  refine ⟨(rosterTurn_touches fit).andThen (cs := [.reports]) State.withReports_touches (fun _ h => h), fun p may idle feeder new => ?_⟩
  have unmoved : (offeredState s d pair o ps xs).pumps = s.pumps := offeredState_touches.same .pumps
  have pins : (offeredState s d pair o ps xs).pins = s.pins := offeredState_touches.same .pins
  have settings : (offeredState s d pair o ps xs).settings = s.settings := offeredState_touches.same .settings
  have called := rosterTurn_called (old := old) (x := {}) fit may (by rw [unmoved]; exact idle) (by rw [pins]; exact feeder) new
  unfold Called at *
  rw [unmoved, pins, settings] at called
  exact called

/-- Settles O26: the bays of the new portions arbitrate one after another, each undisturbed by the others, and then the Roster calls. -/
theorem liftFrameIsRefusedOrEntered : Obligations.LiftFrameIsRefusedOrEntered := by
  unfold Obligations.LiftFrameIsRefusedOrEntered
  intro d pair arrival body s admitted
  cases result : s.judgeLift d body with
  | refused r => exact ⟨_, exec_lift_refused admitted result, answerFrame_becomes⟩
  | accepted o ps xs =>
    refine ⟨_, exec_lift_accepted admitted result, ?_⟩
    obtain ⟨running, -⟩ := admitted
    obtain ⟨-, few, -⟩ := State.judgeLift_accepted result
    have few : ps.length ≤ 8 := le_trans (Nat.le_add_left _ _) few
    have started (pumps : ServingPumpsSound s) (p : Portion) (mem : p ∈ ps) (pending : p.state = .pending)
        (free : s.grantOf p.bay = none) (serves : s.service p.bay = .serviceable) (funds : s.accounts.exhausted = false) :
        GrantStarted p.bay (s.enterOrder d o ps) s
          ((offeredState s d pair o ps xs).settle (s.setPort d (heardOn s.ports[d] pair)) {}) := by
      obtain ⟨h, q, started⟩ := offered_started (pair := pair) (xs := xs) running few mem pending free serves funds
      obtain ⟨moved, called⟩ := lift_turns (old := s.setPort d (heardOn s.ports[d] pair)) (pair := pair) (o := o) (ps := ps)
        (xs := xs) running pumps
      refine started.grantStarted (offeredState_touches.same .accounts) moved fun x bay idle feeder above => ?_
      rw [← bay] at started above free
      refine called x ⟨offeredState_running running, ?_, ?_⟩ idle feeder ?_
      · rw [started.grant]
        rfl
      · unfold State.aboveStart State.bayLevel at *
        rw [offeredState_touches.same .gauges, offeredState_touches.same .settings]
        exact above
      · unfold State.grantIsNew
        rw [started.grant, show (s.setPort d (heardOn s.ports[d] pair)).grantOf (bayOf x) = none from free]
    refine ⟨?_, ?_, ?_, ?_, fun pumps p mem pending free serves funds => ?_, fun _ pumps => ⟨started pumps, fun b g grant => ?_⟩⟩
    · exact lift_touches running
    · exact (lift_holds running).1
    · exact (lift_holds running).2
    · exact lift_answered running
    · obtain ⟨h, grant, -⟩ := started pumps p mem pending free serves funds
      rw [grant]
      rfl
    · exact (offered_stands grant).of_touches (lift_turns running pumps).1

end Sys2Proof.Safety
end

section
/-! SUPPORT. TRAVEL_LIMIT_EXPIRY (R62, R79, R146, R150): the jam of a gate in its stages, what it signals, and what lasts of it. -/

-- One proof after another, as in Laws: in parallel, the threads of so many outgrow the memory the check allows.
set_option Elab.async false

namespace Sys2Proof.Safety

open Sys2Proof Sys2Proof.Machine

variable {s t u : State} {d : DistrictId} {b : BayId} {i : IntakeId} {old : State}

/-! ## The stages of a jam -/

/-- The faulted flags with that of a jammed intake. -/
def faultedWith (s : State) (i : IntakeId) : Vector Bool 16 := s.orders.faulted.set i true

/-- The gate is JAMMED and its flag set (R62, R150). -/
def markedState (s : State) (i : IntakeId) : State := (s.setGate i { state := .jammed, timer := none }).setFaulted i true

/-- The portions with no intake left have ended (R79). -/
def lossState (s : State) (i : IntakeId) : State :=
  (markedState s i).each allDistricts fun t d =>
    t.mapPortions d (gateFaulted (faultedWith s i) i) fun p => { p with state := .ended .gateFault }

/-- Their orders have been tested (R74). -/
def examinedState (s : State) (i : IntakeId) : State := (lossState s i).each allDistricts fun t d => t.testOrders d

/-- The grants of these portions. -/
def jamClosings (s : State) (i : IntakeId) : List Closing :=
  (markedState s i).grantsWith fun _ p => gateFaulted (faultedWith s i) i p

/-- The jam is signalled to the station and to the intake's owners (R79, R150). -/
def tellJam (s : State) (i : IntakeId) : State :=
  (s.raiseStation .gateJammed).each allDistricts fun t d => if t.settings.owns i d then t.reportTo d .gateJammed else t

theorem jam_eq : s.jam i = tellJam ((examinedState s i).closeGrants (jamClosings s i) false) i := rfl

theorem exec_travelLimitExpiry_rest (h : s.gates[i].timer ≠ some 0) : exec (.travelLimitExpiry i) s = .next s :=
  congrArg Host.Outcome.next (if_neg fun c => h c.2.2)

theorem exec_travelLimitExpiry (live : s.isLive) (travels : s.gates[i].state = .opening ∨ s.gates[i].state = .closing)
    (timer : s.gates[i].timer = some 0) : exec (.travelLimitExpiry i) s = .next ((s.jam i).settle s {}) :=
  congrArg Host.Outcome.next (if_pos ⟨live, travels, timer⟩)

theorem markedState_touches : OnlyTouches [.orders, .gates] s (markedState s i) :=
  State.setGate_touches.andThen State.setFaulted_touches

theorem examinedState_touches : OnlyTouches [.orders, .gates, .ports] s (examinedState s i) :=
  (markedState_touches.andThen (.each (fun _ _ => State.mapPortions_touches) _ _) (ds := [.orders, .gates, .ports])).andThen
    (.each (fun _ _ => .each (fun _ _ => State.testOrder_touches) _ _) _ _)

theorem tellJam_touches : OnlyTouches [.ports, .river] s (tellJam s i) :=
  State.raiseStation_touches.andThen (.each (fun _ _ => .ite (fun _ => State.reportTo_touches) fun _ => .keep) _ _)

section
variable (running : s.isRunning)
include running

theorem jam_running : (s.jam i).isRunning := by
  rw [State.isRunning, State.jam_touches.same .loader]
  exact running

theorem jam_settles_touches : OnlyTouches settled s ((s.jam i).settle old {}) := by
  refine State.jam_touches.andThen (State.settle_touches_settled ?_)
  rw [jam_running running]
  decide

/-- What lasts and holds when the orders have been tested stands when the jam has settled. -/
theorem jam_lasts {P : State → Prop} (k : Lasts Anyone P) (h : P (examinedState s i)) : P ((s.jam i).settle old {}) := by
  have closed := k.stands.closeGrants (xs := jamClosings s i) (reset := false) (fun _ _ => .inr trivial) h
  refine k.settle (jam_running running) (each_keeps (fun d _ t h => ?_) (k.stands.raised closed))
  split
  · exact k.stands.told trivial h
  · exact h

end

/-! ## The gate and its flag -/

/-- The gate is JAMMED with its timer stopped, and the faulted flags are these. -/
def JammedWith (i : IntakeId) (flags : Vector Bool 16) (s : State) : Prop :=
  s.gates[i] = { state := .jammed, timer := none } ∧ s.orders.faulted = flags

variable {flags : Vector Bool 16}

theorem JammedWith.congr (gates : t.gates[i] = s.gates[i]) (faulted : t.orders.faulted = s.orders.faulted)
    (h : JammedWith i flags s) : JammedWith i flags t := by
  unfold JammedWith
  rw [gates, faulted]
  exact h

theorem JammedWith.of_touches {bs : List Block} (touched : OnlyTouches bs s t) (h : JammedWith i flags s)
    (orders : Block.orders ∉ bs := by decide) (gates : Block.gates ∉ bs := by decide) : JammedWith i flags t :=
  h.congr (by rw [touched.same .gates gates]) (congrArg OrderUnit.faulted (touched.same .orders orders))

/-- A JAMMED gate takes no command (R147, R148). -/
theorem openGate_jammed (h : s.gates[i].state = .jammed) : s.openGate i = s := by
  unfold State.openGate
  rw [h]

theorem closeGate_jammed (h : s.gates[i].state = .jammed) : s.closeGate i = s := by
  unfold State.closeGate
  rw [h]

theorem jammedWith_lasts : Lasts Anyone (JammedWith i flags) where
  stands :=
    { moved := fun touched h => h.of_touches touched
      told := fun _ h => h.of_touches State.reportTo_touches
      opened := fun {s j} h => by
        by_cases same : i = j
        · rw [← same, openGate_jammed (by rw [h.1])]
          exact h
        · exact h.congr (State.openGate_others i same) (congrArg OrderUnit.faulted (State.openGate_touches.same .orders))
      closed := fun {s j} h => by
        by_cases same : i = j
        · rw [← same, closeGate_jammed (by rw [h.1])]
          exact h
        · exact h.congr (State.closeGate_others i same) (congrArg OrderUnit.faulted (State.closeGate_touches.same .orders))
      freed := id
      returned := id
      granted := fun {s b v w} h _ => by
        have installed : JammedWith i flags (s.installGrant b w) := h.of_touches State.installGrant_touches
        exact installed
      fault := fun _ => trivial
      unserved := fun _ => trivial
      holder := fun _ _ => trivial
      winner := fun _ _ => trivial }
  ends := endPortions_keeps (fun _ _ => id) fun _ _ _ _ h =>
    h.congr (by rw [State.testOrder_touches.same .gates]) State.testOrder_faulted

theorem examinedState_jammed : JammedWith i (faultedWith s i) (examinedState s i) := by
  have marked : JammedWith i (faultedWith s i) (markedState s i) := ⟨State.setGate_self, rfl⟩
  refine each_keeps (fun _ _ _ => each_keeps fun _ _ _ h => ?_) (each_keeps (fun _ _ _ => id) marked)
  exact h.congr (by rw [State.testOrder_touches.same .gates]) State.testOrder_faulted

/-! ## The signals (R150, R171, R174) -/

theorem examinedState_flags : FlagsKept s (examinedState s i) := by
  have marked : FlagsKept s (markedState s i) := by
    refine (SignalsKept.of_gates State.setGate_touches fun j jammed => ?_).toFlagsKept.andThen
      (FlagsKept.of_touches State.setFaulted_touches)
    by_cases same : j = i
    · rw [same, State.setGate_self]
    · rw [State.setGate_others j same]
      exact jammed
  have lost : SignalsKept (markedState s i) (lossState s i) :=
    .each (fun _ _ => SignalsKept.of_touches State.mapPortions_touches) _ _
  exact (marked.andThen lost.toFlagsKept).andThen
    (SignalsKept.each (fun _ _ => .each (fun _ _ => State.testOrder_signals) _ _) _ _).toFlagsKept

theorem jamClosed_flags : FlagsKept s ((examinedState s i).closeGrants (jamClosings s i) false) :=
  examinedState_flags.andThen (SignalsKept.each (fun _ _ => State.closeGrant_signals) _ _).toFlagsKept

section
variable (running : s.isRunning)
include running

theorem jam_settle_signals : SignalsKept (s.jam i) ((s.jam i).settle old {}) :=
  State.settle_signals (by rw [jam_running running]; decide)

theorem jam_raised : FlagUp .gateJammed ((s.jam i).settle old {}) := by
  have kept : SignalsKept (((examinedState s i).closeGrants (jamClosings s i) false).raiseStation .gateJammed) (s.jam i) :=
    .each (fun _ _ => .ite (fun _ => State.reportTo_signals) fun _ => .keep) _ _
  exact (jam_settle_signals running).river _ (kept.river _ (State.raiseStation_up (jamClosed_flags.running running)))

/-- The owners that enable GATE_JAMMED take it (R150). -/
theorem jam_taken (owner : s.settings.owns i d = true) : EventTaken .gateJammed d s ((s.jam i).settle old {}) := by
  have raised : FlagsKept s (((examinedState s i).closeGrants (jamClosings s i) false).raiseStation .gateJammed) :=
    jamClosed_flags.andThen State.raiseStation_signals.toFlagsKept
  have told := State.each_taken (s := s) (e := .gateJammed) (d := d)
    (act := fun t d => if t.settings.owns i d then t.reportTo d .gateJammed else t)
    (fun _ _ => .ite (fun _ => State.reportTo_signals) fun _ => .keep)
    (fun t kept running => by
      rw [kept.settings, if_pos owner]
      exact State.reportTo_taken running)
    raised (raised.running running) (mem_allDistricts d)
  exact (told.since raised).stays (jam_settle_signals running).toFlagsKept

end

end Sys2Proof.Safety
end

section
/-! SUPPORT. What becomes of portions and grants while grants close and what follows settles (R79, R90, R91, R98, R99). -/

-- One proof after another, as in Laws: in parallel, the threads of so many outgrow the memory the check allows.
set_option Elab.async false

namespace Sys2Proof.Safety

open Sys2Proof Sys2Proof.Machine

variable {s t : State} {b : BayId} {g : Grant} {xs : List IntakeId} {reset : Bool} {w : Contender} {n : Nat} {L : BayId → Prop}

/-! ## What the ends and starts of grants do to orders and grants -/

/-- A bay that is freed loses its grant; the rest moves other parts (R91). -/
theorem freeBay_after : OnlyTouches notOrders (s.setGrant b none) (s.freeBay b g xs reset) :=
  (((OnlyTouches.each (fun _ _ => State.stopPump_touches.andThen State.withdrawCall_touches (ds := pumpParts)) _ _).andThen
    State.closeGates_touches (ds := notOrders)).andThen State.reportEnd_touches (ds := notOrders)).andThen
      (.each (fun _ _ => State.selfClear_touches) _ _)

theorem freeBay_grantOf {x : BayId} : (s.freeBay b g xs reset).grantOf x = if b = x then none else s.grantOf x := by
  have same : (s.freeBay b g xs reset).grantOf x = (s.setGrant b none).grantOf x := by
    unfold State.grantOf
    rw [freeBay_after.same .arbiters]
  rw [same, State.setGrant_grantOf]

/-- A handover brings the winner its grant; the rest moves other parts (R90). -/
theorem handOver_after :
    OnlyTouches notOrders ((s.installGrant b w).setPortion w.district w.portion.tag b .inService) (s.handOver b g xs reset w) :=
  ((State.closeGates_touches.andThen State.openGates_touches (ds := notOrders)).andThen State.reportEnd_touches
    (ds := notOrders)).andThen State.reportTo_touches

/-- So does a start (R88). -/
theorem startGrant_after :
    OnlyTouches notOrders ((s.installGrant b w).setPortion w.district w.portion.tag b .inService) (s.startGrant b w) :=
  State.openGates_touches.andThen State.reportTo_touches

/-- `P` speaks of orders and grants alone, and survives the starts of grants, and the closes of lost bays of `L`. -/
structure Takes (L : BayId → Prop) (P : State → Prop) : Prop where
  quiet : ∀ {s t}, OnlyTouches notOrders s t → P s → P t
  granted : ∀ {s b v w}, P s → s.grantOf b = none → s.winnerAt b v = some w →
    P ((s.installGrant b w).setPortion w.district w.portion.tag b .inService)
  returned : ∀ {s b g}, L b → P s → s.grantOf b = some g → P ((s.returnPortion g.district g.tag b).setGrant b none)

theorem Takes.reacts {P : State → Prop} (k : Takes L P) : Reacts L P where
  quiet touched := k.quiet touched.mono
  started h free won := k.quiet startGrant_after (k.granted h free won)
  lost {s was b} may h := by
    unfold State.takeService
    split
    · have told : P (s.reportAll .bayUnserved) := k.quiet State.reportAll_touches.mono h
      dsimp only
      unfold State.closeReturning
      split
      · exact told
      · exact k.quiet freeBay_after (k.returned may told ‹_›)
    · exact h

/-! ## Closes one after another (R79, R99) -/

/-- What the closes of grants bring, bay by bay: the list holds the bays that are still to come. -/
theorem closeGrants_reaches {P : List BayId → State → Prop} (quiet : ∀ {rs s t}, OnlyTouches notOrders s t → P rs s → P rs t)
    (freed : ∀ {b rs s}, b ∉ rs → P (b :: rs) s → P rs (s.setGrant b none))
    (granted : ∀ {b rs s v w}, b ∉ rs → P (b :: rs) s → s.winnerAt b v = some w →
      P rs ((s.installGrant b w).setPortion w.district w.portion.tag b .inService)) :
    ∀ {xs : List Closing} {s : State}, (xs.map Closing.bay).Nodup → P (xs.map Closing.bay) s → P [] (s.closeGrants xs reset)
  | [], _, _, h => h
  | x :: xs, s, apart, h => by
    obtain ⟨fresh, apart⟩ := List.nodup_cons.1 apart
    have closed : P (xs.map Closing.bay) (s.closeGrant x.bay x.grant x.intakes reset) := by
      unfold State.closeGrant
      split
      · exact quiet handOver_after (granted fresh h ‹_›)
      · exact quiet freeBay_after (freed fresh h)
    exact closeGrants_reaches (P := P) (xs := xs) quiet freed granted apart closed

theorem lostIn_mono {L' : BayId → Prop} (weaker : ∀ b, L b → L' b) (h : LostIn L n s) : LostIn L' n s :=
  ⟨h.1, fun r hr b change => weaker b (h.2 r hr b change)⟩

theorem Sound.mono {L' : BayId → Prop} (weaker : ∀ b, L b → L' b) (h : Sound L n s) : Sound L' n s := ⟨h.1, lostIn_mono weaker h.2⟩

/-- A bay of `L` that is not still to come and holds no grant. -/
def FreedOf (L : BayId → Prop) (rs : List BayId) (s : State) (b : BayId) : Prop := L b ∧ b ∉ rs ∧ s.grantOf b = none

/-- Of the bays of `L` only those left FREE can have been lost when their grants have closed (R90, R91). -/
theorem closeGrants_lost : ∀ {xs : List Closing} {s : State}, (xs.map Closing.bay).Nodup → (∀ x ∈ xs, L x.bay) →
    Sound (FreedOf L (xs.map Closing.bay) s) n s →
    Sound (FreedOf L [] (s.closeGrants xs reset)) n (s.closeGrants xs reset)
  | [], _, _, _, h => h
  | x :: xs, s, apart, may, h => by
    obtain ⟨fresh, apart⟩ := List.nodup_cons.1 apart
    have closed : Sound (FreedOf L (xs.map Closing.bay) (s.closeGrant x.bay x.grant x.intakes reset)) n
        (s.closeGrant x.bay x.grant x.intakes reset) := by
      unfold State.closeGrant
      split
      · rename_i w won
        refine (h.of_touches State.handOver_touches).mono fun b ⟨mine, gone, free⟩ => ?_
        obtain ⟨other, gone⟩ := not_or.1 (mt List.mem_cons.2 gone)
        refine ⟨mine, gone, ?_⟩
        have same : (s.handOver x.bay x.grant x.intakes reset w).grantOf b = (s.installGrant x.bay w).grantOf b := by
          unfold State.grantOf
          rw [handOver_after.same .arbiters]
          rfl
        obtain ⟨f, -, -, grants⟩ := installGrant_grants (s := s) (b := x.bay) (x := b) (w := w)
        rw [same, grants, if_neg (Ne.symm other), free]
        rfl
      · have wider : Sound (fun b => b = x.bay ∨ FreedOf L (x.bay :: xs.map Closing.bay) s b) n s := h.mono fun b => .inr
        refine (wider.freeBay (.inl rfl)).mono fun b freed => ?_
        obtain rfl | ⟨mine, gone, free⟩ := freed
        · exact ⟨may x List.mem_cons_self, fresh, by rw [freeBay_grantOf, if_pos rfl]⟩
        · obtain ⟨other, gone⟩ := not_or.1 (mt List.mem_cons.2 gone)
          exact ⟨mine, gone, by rw [freeBay_grantOf, if_neg (Ne.symm other), free]⟩
    exact closeGrants_lost (xs := xs) apart (fun y hy => may y (List.mem_cons_of_mem _ hy)) closed

end Sys2Proof.Safety
end

section
/-! SUPPORT. What becomes of a portion when a gate jams (R79): lost with its last intake, or open with one that is left. -/

-- One proof after another, as in Laws: in parallel, the threads of so many outgrow the memory the check allows.
set_option Elab.async false

namespace Sys2Proof.Safety

open Sys2Proof Sys2Proof.Machine

variable {s t u : State} {d x : DistrictId} {b : BayId} {g : Grant} {w : Contender} {v : Service} {L : BayId → Prop} {rs : List BayId}
  {p : Portion} {y : BayId}

/-! ## One portion, its grant, and what changes them -/

/-- The grant is to the portion (R84). -/
def HeldBy (d : DistrictId) (p : Portion) (g : Grant) : Prop := g.district = d ∧ g.tag = p.tag

/-- No grant of the portion's bay is to the portion. -/
def NotHeld (d : DistrictId) (p : Portion) (s : State) : Prop := ∀ g ∈ s.grantOf p.bay, ¬HeldBy d p g

/-- The name of one portion (R67). -/
def Only (d : DistrictId) (p : Portion) : Names := fun x tag b => x = d ∧ tag = p.tag ∧ b = p.bay

/-- A change of state, of portions that a test picks, as one portion sees it. -/
theorem mem_mapPortions {z : PortionState} {test : Portion → Bool} {q : Portion} (h : q ∈ s.orders.districts[d].queue) :
    (if x = d ∧ test q = true then { q with state := z } else q)
      ∈ (s.mapPortions x test fun p => { p with state := z }).orders.districts[d].queue := by
  rw [State.mapPortions_districts]
  by_cases same : x = d
  · rw [if_pos same]
    refine List.mem_map.2 ⟨q, h, ?_⟩
    simp only [same, true_and]
  · rw [if_neg same, if_neg fun c => same c.1]
    exact h

theorem of_mem_mapPortions {z : PortionState} {test : Portion → Bool} {q : Portion}
    (h : q ∈ (s.mapPortions x test fun p => { p with state := z }).orders.districts[d].queue) :
    ∃ q' ∈ s.orders.districts[d].queue, q = if x = d ∧ test q' = true then { q' with state := z } else q' := by
  rw [State.mapPortions_districts] at h
  by_cases same : x = d
  · rw [if_pos same] at h
    obtain ⟨q', hq, rfl⟩ := List.mem_map.1 h
    refine ⟨q', hq, ?_⟩
    simp only [same, true_and]
  · rw [if_neg same] at h
    exact ⟨q, h, by rw [if_neg fun c => same c.1]⟩

theorem installGrant_orders : (s.installGrant b w).orders = s.orders := State.installGrant_touches.same .orders

/-- A winner is a PENDING portion of its bay. -/
theorem winner_waits (won : s.winnerAt b v = some w) :
    w.portion ∈ s.orders.districts[w.district].queue ∧ w.portion.state = .pending ∧ w.portion.bay = b := by
  obtain ⟨member, pending, bay, -⟩ := State.candidate_waits (State.winnerAt_wins won).candidate
  exact ⟨member, pending, bay⟩

/-! ## A portion that is IN SERVICE -/

/-- The portion is IN SERVICE, and no other of its name waits; in a bay of `L` it holds no grant. -/
structure Serving (L : BayId → Prop) (d : DistrictId) (p : Portion) (s : State) : Prop where
  member : p ∈ s.orders.districts[d].queue
  named : ∀ q ∈ s.orders.districts[d].queue, q.tag = p.tag → q.bay = p.bay → q.state = .inService
  apart : L p.bay → NotHeld d p s

theorem Serving.quiet (touched : OnlyTouches notOrders s t) (h : Serving L d p s) : Serving L d p t := by
  obtain ⟨member, named, apart⟩ := h
  refine ⟨?_, ?_, ?_⟩
  · rw [touched.same .orders]; exact member
  · rw [touched.same .orders]; exact named
  · unfold NotHeld State.grantOf
    rw [touched.same .arbiters]
    exact apart

theorem Serving.freed (h : Serving L d p s) : Serving L d p (s.setGrant b none) := by
  refine ⟨h.member, h.named, fun may g hg => ?_⟩
  rw [State.setGrant_grantOf] at hg
  split at hg
  · cases hg
  · exact h.apart may g hg

/-- It does not win, as it is not PENDING. -/
theorem Serving.granted (won : s.winnerAt b v = some w) (h : Serving L d p s) :
    Serving L d p ((s.installGrant b w).setPortion w.district w.portion.tag b .inService) := by
  obtain ⟨member, pending, bay⟩ := winner_waits won
  have serves : p.state = .inService := h.named p h.member rfl rfl
  refine ⟨?_, fun q hq tag bay' => ?_, fun may g hg held => ?_⟩
  · have mapped := mem_mapPortions (s := s.installGrant b w) (x := w.district) (z := .inService)
      (test := fun q => q.named w.portion.tag b) (q := p) (by rw [installGrant_orders]; exact h.member)
    rw [show { p with state := .inService } = p by cases p; cases serves; rfl, ite_self] at mapped
    exact mapped
  · obtain ⟨q', hq', rfl⟩ := of_mem_mapPortions hq
    rw [installGrant_orders] at hq'
    split
    · rfl
    · rename_i other
      rw [if_neg other] at tag bay'
      exact h.named q' hq' tag bay'
  · obtain ⟨here, same, new⟩ | ⟨other, g', old, same, kept, -⟩ := installGrant_grantOf hg
    · obtain ⟨district, tag⟩ := held
      rw [same] at district
      subst district
      rw [h.named w.portion member (new.symm.trans tag) (bay.trans here.symm)] at pending
      cases pending
    · exact h.apart may g' old ⟨same.symm.trans held.1, kept.symm.trans held.2⟩

theorem serving_takes : Takes L (Serving L d p) where
  quiet := Serving.quiet
  granted h _ won := h.granted won
  returned {s b g} may h grant := by
    have other (q : Portion) (tag : q.tag = p.tag) (bay : q.bay = p.bay) :
        ¬(g.district = d ∧ (q.named g.tag b && !q.isEnded) = true) := by
      rintro ⟨district, named⟩
      simp only [Portion.named, Bool.and_eq_true, beq_iff_eq] at named
      obtain ⟨⟨tag', bay'⟩, -⟩ := named
      have here : p.bay = b := bay.symm.trans bay'
      exact h.apart (by rw [here]; exact may) g (by rw [here]; exact grant) ⟨district, tag'.symm.trans tag⟩
    have returned : Serving L d p (s.returnPortion g.district g.tag b) := by
      refine ⟨?_, fun q hq tag bay => ?_, h.apart⟩
      · have mapped := mem_mapPortions (x := g.district) (z := .pending) (test := fun q => q.named g.tag b && !q.isEnded) h.member
        rw [if_neg (other p rfl rfl)] at mapped
        exact mapped
      · obtain ⟨q', hq', rfl⟩ := of_mem_mapPortions hq
        split
        · rename_i picked
          rw [if_pos picked] at tag bay
          exact absurd picked (other q' tag bay)
        · rename_i kept
          rw [if_neg kept] at tag bay
          exact h.named q' hq' tag bay
    exact returned.freed

theorem closeGrants_serving {xs : List Closing} {reset : Bool} (apart : (xs.map Closing.bay).Nodup) (h : Serving L d p s) :
    Serving L d p (s.closeGrants xs reset) :=
  closeGrants_reaches (P := fun _ => Serving L d p) Serving.quiet (fun _ h => h.freed) (fun _ h won => h.granted won) apart h

/-! ## A portion that waits -/

/-- The portion waits, or has won its bay, which is none of those that are still to come. -/
def Waiting (d : DistrictId) (p : Portion) (rs : List BayId) (s : State) : Prop :=
  { p with state := .pending } ∈ s.orders.districts[d].queue
  ∨ { p with state := .inService } ∈ s.orders.districts[d].queue ∧ p.bay ∉ rs ∧ ∃ h ∈ s.grantOf p.bay, HeldBy d p h

theorem Waiting.quiet (touched : OnlyTouches notOrders s t) (h : Waiting d p rs s) : Waiting d p rs t := by
  unfold Waiting State.grantOf at *
  rw [touched.same .orders, touched.same .arbiters]
  exact h

/-- A bay that is freed is another, where the portion has won its own. -/
theorem Waiting.freed (h : Waiting d p (b :: rs) s) : Waiting d p rs (s.setGrant b none) := by
  refine h.imp id fun ⟨member, gone, g, grant, held⟩ => ?_
  obtain ⟨other, gone⟩ := not_or.1 (mt List.mem_cons.2 gone)
  refine ⟨member, gone, g, ?_, held⟩
  rw [State.setGrant_grantOf, if_neg (Ne.symm other)]
  exact grant

/-- It may win its own bay, where it holds none yet; other bays do not concern it. -/
theorem Waiting.granted (fresh : b ∉ rs)
    (h : { p with state := .pending } ∈ s.orders.districts[d].queue
      ∨ { p with state := .inService } ∈ s.orders.districts[d].queue ∧ p.bay ∉ rs ∧ p.bay ≠ b ∧ ∃ h ∈ s.grantOf p.bay, HeldBy d p h) :
    Waiting d p rs ((s.installGrant b w).setPortion w.district w.portion.tag b .inService) := by
  have kept {q : Portion} (mem : q ∈ s.orders.districts[d].queue) :=
    mem_mapPortions (s := s.installGrant b w) (x := w.district) (z := .inService) (test := fun q => q.named w.portion.tag b)
      (q := q) (by rw [installGrant_orders]; exact mem)
  obtain waits | ⟨member, gone, other, g, grant, held⟩ := h
  · have mapped := kept waits
    split at mapped
    · rename_i wins
      obtain ⟨district, named⟩ := wins
      simp only [Portion.named, Bool.and_eq_true, beq_iff_eq] at named
      obtain ⟨tag, bay⟩ := named
      obtain ⟨f, same, -, grants⟩ := installGrant_grants (s := s) (b := b) (x := p.bay) (w := w)
      refine .inr ⟨mapped, by rw [bay]; exact fresh, f (newGrant s w), ?_, ?_⟩
      · show (s.installGrant b w).grantOf p.bay = _
        rw [grants, if_pos bay.symm]
        rfl
      · obtain ⟨district', tag', -⟩ := same (newGrant s w)
        exact ⟨district'.trans district, tag'.trans tag.symm⟩
    · exact .inl mapped
  · have mapped := kept member
    rw [ite_self] at mapped
    obtain ⟨f, same, -, grants⟩ := installGrant_grants (s := s) (b := b) (x := p.bay) (w := w)
    refine .inr ⟨mapped, gone, f g, ?_, ?_⟩
    · show (s.installGrant b w).grantOf p.bay = _
      rw [grants, if_neg (Ne.symm other), grant]
      rfl
    · obtain ⟨district, tag, -⟩ := same g
      exact ⟨district.trans held.1, tag.trans held.2⟩

theorem waiting_takes : Takes L (Waiting d p []) where
  quiet := Waiting.quiet
  granted {s b v w} h free _ := by
    refine Waiting.granted List.not_mem_nil (h.imp id fun ⟨member, gone, g, grant, held⟩ => ⟨member, gone, ?_, g, grant, held⟩)
    intro here
    rw [here, free] at grant
    cases grant
  returned {s b g} _ h grant := by
    have kept {q : Portion} (mem : q ∈ s.orders.districts[d].queue) :=
      mem_mapPortions (x := g.district) (z := .pending) (test := fun q => q.named g.tag b && !q.isEnded) mem
    obtain waits | ⟨member, gone, h, held, mine⟩ := h
    · have mapped := kept waits
      rw [ite_self] at mapped
      exact .inl mapped
    · by_cases here : p.bay = b
      · have same : h = g := by
          rw [here, grant] at held
          exact (Option.some.inj held).symm
        have mapped := kept member
        rw [if_pos ⟨same ▸ mine.1, by simp [Portion.named, Portion.isEnded, here, ← mine.2, same]⟩] at mapped
        exact .inl mapped
      · have mapped := kept member
        rw [if_neg] at mapped
        case neg.hnc =>
          simp only [Portion.named, Bool.and_eq_true, beq_iff_eq]
          exact fun c => here c.2.1.2
        refine .inr ⟨mapped, gone, h, ?_, mine⟩
        rw [State.setGrant_grantOf, if_neg (Ne.symm here)]
        exact held

theorem closeGrants_waiting {xs : List Closing} {reset : Bool} (apart : (xs.map Closing.bay).Nodup)
    (h : Waiting d p (xs.map Closing.bay) s) : Waiting d p [] (s.closeGrants xs reset) := by
  refine closeGrants_reaches (P := Waiting d p) Waiting.quiet (fun _ h => h.freed) (fun fresh h _ => ?_) apart h
  refine Waiting.granted fresh (h.imp id fun ⟨member, gone, held⟩ => ?_)
  obtain ⟨other, gone⟩ := not_or.1 (mt List.mem_cons.2 gone)
  exact ⟨member, gone, other, held⟩

/-! ## A portion that has ended -/

/-- The portion has ended where it stands. -/
structure EndedHere (d : DistrictId) (p : Portion) (s : State) : Prop where
  member : p ∈ s.orders.districts[d].queue
  ended : AllEnded (NamedBy (Only d p)) s

theorem EndedHere.quiet (touched : OnlyTouches notOrders s t) (h : EndedHere d p s) : EndedHere d p t := by
  obtain ⟨member, ended⟩ := h
  exact ⟨by rw [touched.same .orders]; exact member, allEnded_congr (touched.same .orders) ended⟩

theorem EndedHere.freed (h : EndedHere d p s) : EndedHere d p (s.setGrant b none) := ⟨h.member, h.ended⟩

theorem EndedHere.granted (won : s.winnerAt b v = some w) (h : EndedHere d p s) :
    EndedHere d p ((s.installGrant b w).setPortion w.district w.portion.tag b .inService) := by
  obtain ⟨member, pending, bay⟩ := winner_waits won
  refine ⟨?_, allEnded_granted namedBy_blind won (fun q _ named picked => ?_) h.ended⟩
  · have mapped := mem_mapPortions (s := s.installGrant b w) (x := w.district) (z := .inService)
      (test := fun q => q.named w.portion.tag b) (q := p) (by rw [installGrant_orders]; exact h.member)
    rw [if_neg] at mapped
    · exact mapped
    · rintro ⟨district, named⟩
      simp only [Portion.named, Bool.and_eq_true, beq_iff_eq] at named
      have ended := h.ended w.district w.portion member ⟨district, named.1.symm, bay.trans named.2.symm⟩
      simp [Portion.isEnded, pending] at ended
  · simp only [Portion.named, Bool.and_eq_true, beq_iff_eq] at named
    obtain ⟨district, tag, here⟩ := picked
    exact ⟨district, named.1.symm.trans tag, bay.trans (named.2.symm.trans here)⟩

theorem endedHere_takes : Takes L (EndedHere d p) where
  quiet := EndedHere.quiet
  granted h _ won := h.granted won
  returned {s b g} _ h _ := by
    have ended : p.isEnded = true := h.ended d p h.member ⟨rfl, rfl, rfl⟩
    have mapped := mem_mapPortions (x := g.district) (z := .pending) (test := fun q => q.named g.tag b && !q.isEnded) h.member
    rw [if_neg fun c => by simp [ended] at c] at mapped
    exact EndedHere.freed ⟨mapped, allEnded_returned namedBy_blind h.ended⟩

theorem closeGrants_endedHere {xs : List Closing} {reset : Bool} (apart : (xs.map Closing.bay).Nodup) (h : EndedHere d p s) :
    EndedHere d p (s.closeGrants xs reset) :=
  closeGrants_reaches (P := fun _ => EndedHere d p) EndedHere.quiet (fun _ h => h.freed) (fun _ h won => h.granted won) apart h

/-! ## A grant that stands -/

theorem GrantStands.quiet (touched : OnlyTouches notOrders s t) (h : GrantStands g b s) : GrantStands g b t := by
  unfold GrantStands State.grantOf at *
  rw [touched.same .arbiters]
  exact h

theorem GrantStands.freed (other : y ≠ b) (h : GrantStands g b s) : GrantStands g b (s.setGrant y none) := by
  unfold GrantStands at *
  rw [State.setGrant_grantOf, if_neg other]
  exact h

theorem GrantStands.granted (other : y ≠ b) (h : GrantStands g b s) :
    GrantStands g b ((s.installGrant y w).setPortion w.district w.portion.tag y .inService) := by
  obtain ⟨g', grant, district, tag, volume, lifting⟩ := h
  obtain ⟨f, same, -, grants⟩ := installGrant_grants (s := s) (b := y) (x := b) (w := w)
  obtain ⟨district', tag', volume', lifting'⟩ := same g'
  refine ⟨f g', ?_, district'.trans district, tag'.trans tag, volume'.trans volume, lifting'.trans lifting⟩
  show (s.installGrant y w).grantOf b = _
  rw [grants, if_neg other, grant]
  rfl

/-- A grant stands on in a bay that is not lost. -/
theorem grantStands_takes (safe : ¬L b) : Takes L (GrantStands g b) where
  quiet := GrantStands.quiet
  granted h free _ := by
    refine h.granted ?_
    rintro rfl
    obtain ⟨g', grant, -⟩ := h
    rw [free] at grant
    cases grant
  returned {s y g'} may h _ := by
    have returned : GrantStands g b (s.returnPortion g'.district g'.tag y) := h
    exact returned.freed fun same => safe (same ▸ may)

theorem closeGrants_grantStands {xs : List Closing} {reset : Bool} (apart : (xs.map Closing.bay).Nodup)
    (safe : b ∉ xs.map Closing.bay) (h : GrantStands g b s) : GrantStands g b (s.closeGrants xs reset) := by
  refine (closeGrants_reaches (P := fun rs t => b ∉ rs ∧ GrantStands g b t) (fun touched h => ⟨h.1, h.2.quiet touched⟩)
    (fun _ h => ?_) (fun _ h _ => ?_) apart ⟨safe, h⟩).2
  · obtain ⟨other, gone⟩ := not_or.1 (mt List.mem_cons.2 h.1)
    exact ⟨gone, h.2.freed (Ne.symm other)⟩
  · obtain ⟨other, gone⟩ := not_or.1 (mt List.mem_cons.2 h.1)
    exact ⟨gone, h.2.granted (Ne.symm other)⟩

end Sys2Proof.Safety
end

section
/-! SUPPORT. The portions and grants of a station whose gate jams (R74, R76, R79, R99). -/

-- One proof after another, as in Laws: in parallel, the threads of so many outgrow the memory the check allows.
set_option Elab.async false

namespace Sys2Proof.Safety

open Sys2Proof Sys2Proof.Machine

variable {s t : State} {d : DistrictId} {i j : IntakeId} {p q : Portion} {old : State}

/-! ## The portions that are lost (R79) -/

/-- The portion names the intake, and all its other intakes are faulted (R79). -/
def Lost (s : State) (i : IntakeId) (p : Portion) : Prop := i ∈ p.intakes ∧ ∀ j ∈ p.intakes, j = i ∨ s.orders.faulted[j] = true

theorem faultedWith_get : (faultedWith s i)[j] = true ↔ j = i ∨ s.orders.faulted[j] = true := by
  have set : (faultedWith s i)[j] = if i = j then true else s.orders.faulted[j] := set_get _ _ _ _
  rw [set]
  split
  · exact iff_of_true rfl (.inl (Eq.symm ‹_›))
  · exact ⟨.inr, fun h => h.resolve_left (Ne.symm ‹_›)⟩

theorem gateFaulted_iff : gateFaulted (faultedWith s i) i p = true ↔ p.isEnded = false ∧ Lost s i p := by
  unfold gateFaulted Lost
  simp only [Bool.and_eq_true, Bool.not_eq_true', List.contains_iff_mem, List.all_eq_true, faultedWith_get, and_assoc]

/-- What the jam makes of a portion. -/
def lossOf (s : State) (i : IntakeId) (p : Portion) : Portion :=
  if gateFaulted (faultedWith s i) i p then { p with state := .ended .gateFault } else p

theorem lossOf_lost (fresh : p.isEnded = false) (lost : Lost s i p) : lossOf s i p = { p with state := .ended .gateFault } :=
  if_pos (gateFaulted_iff.2 ⟨fresh, lost⟩)

theorem lossOf_kept (kept : ¬Lost s i p) : lossOf s i p = p := if_neg fun c => kept (gateFaulted_iff.1 c).2

theorem lossOf_name : (lossOf s i p).tag = p.tag ∧ (lossOf s i p).bay = p.bay := by
  unfold lossOf
  split <;> exact ⟨rfl, rfl⟩

/-- A change of the portions of several districts, each once. -/
theorem each_mapPortions_districts {pick : Portion → Bool} {f : Portion → Portion} : ∀ {xs : List DistrictId} {s : State}, xs.Nodup →
    (s.each xs fun t x => t.mapPortions x pick f).orders.districts[d] =
      if d ∈ xs then { s.orders.districts[d] with queue := s.orders.districts[d].queue.map fun p => if pick p then f p else p }
      else s.orders.districts[d]
  | [], _, _ => rfl
  | x :: xs, s, apart => by
    obtain ⟨fresh, apart⟩ := List.nodup_cons.1 apart
    refine (each_mapPortions_districts (xs := xs) (s := s.mapPortions x pick f) apart).trans ?_
    rw [State.mapPortions_districts]
    by_cases same : x = d
    · subst same
      rw [if_neg fresh, if_pos rfl, if_pos List.mem_cons_self]
    · simp only [List.mem_cons, if_neg same, Ne.symm same, false_or]

theorem lossState_districts :
    (lossState s i).orders.districts[d] =
      { s.orders.districts[d] with queue := s.orders.districts[d].queue.map (lossOf s i) } :=
  (each_mapPortions_districts (by decide)).trans (if_pos (mem_allDistricts d))

theorem lossState_portionsNamed (named : PortionsNamed s) : PortionsNamed (lossState s i) := by
  intro d
  rw [lossState_districts]
  exact DistrictOrders.relabel_named (fun _ => ⟨rfl, rfl⟩) (named d)

/-- Portions of a queue have names of their own (R67). -/
theorem named_unique (named : PortionsNamed s) (hp : p ∈ s.orders.districts[d].queue) (hq : q ∈ s.orders.districts[d].queue)
    (tag : q.tag = p.tag) (bay : q.bay = p.bay) : q = p := by
  have found := find_named (named d) hq
  rw [tag, bay, find_named (named d) hp] at found
  exact (Option.some.inj found).symm

/-- The portions after the loss come from those before it. -/
theorem of_mem_lossState (h : q ∈ (lossState s i).orders.districts[d].queue) :
    ∃ p ∈ s.orders.districts[d].queue, lossOf s i p = q := by
  rw [lossState_districts] at h
  exact List.mem_map.1 h

theorem mem_lossState (h : p ∈ s.orders.districts[d].queue) : lossOf s i p ∈ (lossState s i).orders.districts[d].queue := by
  rw [lossState_districts]
  exact List.mem_map_of_mem h

/-- A portion after the loss with the name of one before it is what that has become. -/
theorem lossState_unique (named : PortionsNamed s) (hp : p ∈ s.orders.districts[d].queue)
    (hq : q ∈ (lossState s i).orders.districts[d].queue) (tag : q.tag = p.tag) (bay : q.bay = p.bay) : q = lossOf s i p := by
  obtain ⟨p', hp', rfl⟩ := of_mem_lossState hq
  obtain ⟨tag', bay'⟩ := lossOf_name (s := s) (i := i) (p := p')
  rw [named_unique named hp hp' (tag'.symm.trans tag) (bay'.symm.trans bay)]

/-! ## The test of their orders (R74, R76) -/

/-- What the tests of orders keep holds when those of the tables have been made. The predicate says that no order has joined. -/
theorem examinedState_keeps {P : State → Prop}
    (tables : ∀ {t : State} {x : DistrictId} {o : Order}, P t → o ∈ t.orders.districts[x].table → o ∈ s.orders.districts[x].table)
    (tested : ∀ {t : State} {x : DistrictId} {o : Order}, o ∈ s.orders.districts[x].table → P t → P (t.testOrder x o))
    (h : P (lossState s i)) : P (examinedState s i) :=
  each_keeps (fun _ _ _ now => each_keeps (fun _ ho _ => tested (tables now ho)) now) h

/-- So does what any test keeps. -/
theorem examinedState_keeps_any {P : State → Prop} (tested : ∀ {t : State} {x : DistrictId} {o : Order}, P t → P (t.testOrder x o))
    (h : P (lossState s i)) : P (examinedState s i) :=
  each_keeps (fun _ _ _ => each_keeps fun _ _ _ => tested) h

/-- A portion that has not ended keeps its order (R74). -/
theorem testOrder_open {x : DistrictId} {o : Order} (fresh : p.isEnded = false) (h : p ∈ s.orders.districts[d].queue) :
    p ∈ (s.testOrder x o).orders.districts[d].queue := by
  unfold State.testOrder
  dsimp only
  split
  · rename_i done
    by_cases same : x = d
    · subst same
      have other : p.tag ≠ o.tag := by
        intro own
        have ended := List.all_eq_true.1 done.1 p h
        simp [own, fresh] at ended
      unfold State.endOrder
      dsimp only
      split
      · rw [setOrders_queueDone]
        exact List.mem_filter.2 ⟨h, by simpa using other⟩
      · rw [State.setOrders_districts, if_pos rfl]
        exact h
    · unfold State.endOrder
      dsimp only
      split
      · show p ∈ (State.setOrders _ _ _).orders.districts[d].queue
        rw [State.setOrders_districts, if_neg same]
        exact h
      · rw [State.setOrders_districts, if_neg same]
        exact h
  · exact h

/-- The portion has ended in the queue, or in a frame that waits to be sent (R76, R78). -/
def EndedOrSent (d : DistrictId) (p : Portion) (e : DonePortion) (s : State) : Prop :=
  p ∈ s.orders.districts[d].queue ∨ ∃ f : DoneFrame, TxEntry.orderDone f ∈ s.ports[d].queue ∧ f.tag = p.tag ∧ e ∈ f.portions

/-- An order that ends takes its portions into its frame, or keeps them (R76). -/
theorem testOrder_ended {x : DistrictId} {o : Order} {e : DonePortion} (entry : p.doneEntry = some e) (named : PortionsNamed s)
    (owner : ∀ y ∈ s.orders.districts[x].table, y.tag = o.tag → y = o) (h : EndedOrSent d p e s) :
    EndedOrSent d p e (s.testOrder x o) := by
  obtain member | ⟨f, sent, tag, portion⟩ := h
  · by_cases own : x = d ∧ p.tag = o.tag
    · obtain ⟨rfl, tag⟩ := own
      obtain ⟨y, hy, same, -⟩ := (named x).2.1 p member
      have ho : o ∈ s.orders.districts[x].table := owner y hy (same.trans tag) ▸ hy
      unfold State.testOrder
      dsimp only
      split
      · by_cases room : s.ports[x].doneCount < Config.maxDone
        · obtain ⟨sent, -⟩ := endOrder_leaves (o := o) room
          exact .inr ⟨_, sent, tag.symm, composeDone_portions (named x) ho member tag entry⟩
        · refine .inl ?_
          unfold State.endOrder
          dsimp only
          rw [if_neg room, State.setOrders_districts, if_pos rfl]
          exact member
      · exact .inl member
    · refine .inl (testOrder_districts (D := fun y => p ∈ y.queue) (fun same h => ?_) (fun _ h _ => h) member)
      exact List.mem_filter.2 ⟨h, by simpa using fun tag => own ⟨same, tag⟩⟩
  · exact .inr ⟨f, testOrder_queue sent, tag, portion⟩

/-- Portions named as they should be, no order joined, and one portion ended. -/
structure Examining (s : State) (d : DistrictId) (p : Portion) (e : DonePortion) (t : State) : Prop where
  named : PortionsNamed t
  tables : ∀ x : DistrictId, ∀ o ∈ t.orders.districts[x].table, o ∈ s.orders.districts[x].table
  ended : EndedOrSent d p e t

theorem Examining.tested {x : DistrictId} {o : Order} {e : DonePortion} (entry : p.doneEntry = some e) (named : PortionsNamed s)
    (ho : o ∈ s.orders.districts[x].table) (h : Examining s d p e t) : Examining s d p e (t.testOrder x o) where
  named := portionsNamed_steady.tested h.named
  tables x := testOrder_districts (D := fun y => ∀ o ∈ y.table, o ∈ s.orders.districts[x].table)
    (fun _ h o ho => h o (List.mem_filter.1 ho).1) (fun _ h _ => h) (h.tables x)
  ended := testOrder_ended entry h.named (fun y hy tag => List.inj_on_of_nodup_map (named x).1 (h.tables x y hy) ho tag) h.ended

/-! ## The closes, and what follows (R79, R90, R91, R98) -/

/-- The bays whose grants a jam closes. -/
def ClosedBy (s : State) (i : IntakeId) (b : BayId) : Prop := b ∈ (jamClosings s i).map Closing.bay

/-- What survives starts and losses, and holds when the grants have been closed, holds when the jam has settled: of the bays of the
closes only those left FREE can have been lost. -/
theorem jam_takes {P : State → Prop} (running : s.isRunning) (pumps : ServingPumpsSound s) (k : Takes (ClosedBy s i) P)
    (h : P ((examinedState s i).closeGrants (jamClosings s i) false)) : P ((s.jam i).settle s {}) := by
  have fit : AllFit (examinedState s i) := (servingPumpsSound_fit pumps).of_touches examinedState_touches
  have reports : (examinedState s i).reports = s.reports := examinedState_touches.same .reports
  have start : Sound (FreedOf (ClosedBy s i) ((jamClosings s i).map Closing.bay) (examinedState s i)) s.reports.length
      (examinedState s i) :=
    ⟨fit, by rw [reports], fun r hr => by rw [reports, List.drop_length] at hr; cases hr⟩
  have closed := closeGrants_lost (reset := false) grantsWith_nodup (fun x hx => List.mem_map_of_mem hx) start
  have told : Sound (FreedOf (ClosedBy s i) [] (s.jam i)) s.reports.length (s.jam i) := by
    refine (closed.of_touches tellJam_touches).mono fun b ⟨mine, gone, free⟩ => ⟨mine, gone, ?_⟩
    unfold State.grantOf at *
    rw [jam_eq, tellJam_touches.same .arbiters]
    exact free
  refine k.reacts.settle (jam_running running) (fun b lost => (lostBays_in told.2 lost).2.2) (k.quiet tellJam_touches.mono h)
    (told.mono fun b freed => freed.1)

/-! ## A portion that is not lost -/

theorem examinedState_member (member : p ∈ s.orders.districts[d].queue) (fresh : p.isEnded = false) (kept : ¬Lost s i p) :
    p ∈ (examinedState s i).orders.districts[d].queue := by
  refine examinedState_keeps_any (P := fun t => p ∈ t.orders.districts[d].queue) (testOrder_open fresh) ?_
  have now := mem_lossState (i := i) member
  rw [lossOf_kept kept] at now
  exact now

section
variable (named : PortionsNamed s) (member : p ∈ s.orders.districts[d].queue)
include named member

theorem portion_found : s.portion d p.tag p.bay = some p := find_named (named d) member

/-- A bay whose grant closes holds no grant of a portion that is not lost. -/
theorem closedBy_notHeld (kept : ¬Lost s i p) (closes : ClosedBy s i p.bay) : NotHeld d p s := by
  obtain ⟨x, hx, bay⟩ := List.mem_map.1 closes
  obtain ⟨grant, p', portion, picked, -⟩ := of_mem_grantsWith hx
  rintro g held ⟨rfl, tag⟩
  have same : x.grant = g := by
    rw [bay] at grant
    exact Option.some.inj (grant.symm.trans held)
  rw [same, bay, tag] at portion
  have found : some p' = some p := portion.symm.trans (portion_found named member)
  cases found
  exact kept (gateFaulted_iff.1 picked).2

theorem examinedState_serving (kept : ¬Lost s i p) (serves : p.state = .inService) :
    Serving (ClosedBy s i) d p (examinedState s i) := by
  refine ⟨examinedState_member member (by simp [Portion.isEnded, serves]) kept, ?_, fun closes => ?_⟩
  · refine examinedState_keeps_any
      (P := fun t => ∀ q ∈ t.orders.districts[d].queue, q.tag = p.tag → q.bay = p.bay → q.state = .inService)
      (fun h => testOrder_districts (D := fun y => ∀ q ∈ y.queue, q.tag = p.tag → q.bay = p.bay → q.state = .inService)
        (fun _ h q hq => h q (List.mem_filter.1 hq).1) (fun _ h _ => h) h) fun q hq tag bay => ?_
    rw [lossState_unique named member hq tag bay, lossOf_kept kept, serves]
  · unfold NotHeld State.grantOf
    rw [examinedState_touches.same .arbiters]
    exact closedBy_notHeld named member kept closes

theorem jam_serving (running : s.isRunning) (pumps : ServingPumpsSound s) (kept : ¬Lost s i p) (serves : p.state = .inService) :
    Serving (ClosedBy s i) d p ((s.jam i).settle s {}) :=
  jam_takes running pumps serving_takes (closeGrants_serving grantsWith_nodup (examinedState_serving named member kept serves))

/-- The grant of a portion that is not lost stands. -/
theorem jam_grantStands (running : s.isRunning) (pumps : ServingPumpsSound s) (kept : ¬Lost s i p) {g : Grant}
    (grant : s.grantOf p.bay = some g) (held : HeldBy d p g) : GrantStands g p.bay ((s.jam i).settle s {}) := by
  have safe : ¬ClosedBy s i p.bay := fun closes => closedBy_notHeld named member kept closes g grant held
  refine jam_takes running pumps (grantStands_takes safe) (closeGrants_grantStands grantsWith_nodup safe ⟨g, ?_, rfl, rfl, rfl, rfl⟩)
  unfold State.grantOf
  rw [examinedState_touches.same .arbiters]
  exact grant

end

theorem jam_waiting (running : s.isRunning) (pumps : ServingPumpsSound s) (member : p ∈ s.orders.districts[d].queue)
    (kept : ¬Lost s i p) (waits : p.state = .pending) : Waiting d p [] ((s.jam i).settle s {}) := by
  have same : { p with state := .pending } = p := by cases p; cases waits; rfl
  refine jam_takes running pumps waiting_takes (closeGrants_waiting grantsWith_nodup (.inl ?_))
  rw [same]
  exact examinedState_member member (by simp [Portion.isEnded, waits]) kept

/-! ## A portion that is lost -/

/-- The entry waits in the transmit queue of the district's port. -/
def Queued (d : DistrictId) (e : TxEntry) (s : State) : Prop := e ∈ s.ports[d].queue

theorem jam_queued (running : s.isRunning) {e : TxEntry} (h : Queued d e (examinedState s i)) :
    Queued d e ((s.jam i).settle s {}) := jam_lasts running queued_lasts h

section
variable (named : PortionsNamed s) (member : p ∈ s.orders.districts[d].queue) (fresh : p.isEnded = false) (lost : Lost s i p)
include named member fresh lost

theorem lossState_allEnded : AllEnded (NamedBy (Only d p)) (lossState s i) := by
  rintro x q hq ⟨rfl, tag, bay⟩
  rw [lossState_unique named member hq tag bay, lossOf_lost fresh lost]
  rfl

theorem examinedState_allEnded : AllEnded (NamedBy (Only d p)) (examinedState s i) :=
  examinedState_keeps_any allEnded_tested (lossState_allEnded named member fresh lost)

/-- The grant of a lost portion is among those that are closed. -/
theorem lost_closedBy {b : BayId} {g : Grant} (grant : s.grantOf b = some g) (mine : Only d p g.district g.tag b) : ClosedBy s i b := by
  obtain ⟨district, tag, rfl⟩ := mine
  subst district
  have portion : (markedState s i).portion g.district g.tag p.bay = some p := by
    rw [tag]
    exact portion_found named member
  exact mem_grantsWith (s := markedState s i) grant portion (gateFaulted_iff.2 ⟨fresh, lost⟩)

/-- No bay holds a grant of it when the jam has settled (R99). -/
theorem jam_over (running : s.isRunning) : Over (Only d p) (fun _ => False) ((s.jam i).settle s {}) := by
  have before : Over (Only d p) (ClosedBy s i) (examinedState s i) := by
    refine ⟨examinedState_allEnded named member fresh lost, fun b g grant mine => lost_closedBy named member fresh lost ?_ mine⟩
    unfold State.grantOf at *
    rw [examinedState_touches.same .arbiters] at grant
    exact grant
  have closed : Over (Only d p) (fun _ => False) (s.jam i) :=
    over_lasts.quiet tellJam_touches.mono (closeGrants_over (reset := false) before)
  exact over_lasts.lasts.settle (jam_running running) closed

/-- It has ended GATE_FAULT, with the volume it has lifted (R79). -/
theorem jam_endedOrSent (running : s.isRunning) (pumps : ServingPumpsSound s) :
    EndedOrSent d { p with state := .ended .gateFault }
      { bay := p.bay, target := p.target, outcome := .gateFault, lifted := p.lifted } ((s.jam i).settle s {}) := by
  have now := mem_lossState (i := i) member
  rw [lossOf_lost fresh lost] at now
  have start : Examining s d { p with state := .ended .gateFault }
      { bay := p.bay, target := p.target, outcome := .gateFault, lifted := p.lifted } (lossState s i) :=
    ⟨lossState_portionsNamed named, fun x o ho => by rw [lossState_districts] at ho; exact ho, .inl now⟩
  have examined := examinedState_keeps (fun h ho => h.tables _ _ ho) (fun ho h => h.tested rfl named ho) start
  have all : AllEnded (NamedBy (Only d p)) (examinedState s i) := examinedState_allEnded named member fresh lost
  obtain here | ⟨f, sent, tag, portion⟩ := examined.ended
  · have ended : EndedHere d { p with state := .ended .gateFault } (examinedState s i) :=
      ⟨here, all⟩
    exact .inl (jam_takes running pumps endedHere_takes (closeGrants_endedHere grantsWith_nodup ended)).member
  · exact .inr ⟨f, jam_queued running sent, tag, portion⟩

end

/-! ## All portions with no intake left -/

/-- The portions of a queue are those of another, up to their states. -/
def From (s t : State) : Prop :=
  ∀ d : DistrictId, ∀ q ∈ t.orders.districts[d].queue, ∃ p ∈ s.orders.districts[d].queue, { q with state := p.state } = p

theorem From.mapPortions {x : DistrictId} {test : Portion → Bool} {z : PortionState} (h : From s t) :
    From s (t.mapPortions x test fun p => { p with state := z }) := by
  intro d q hq
  obtain ⟨q', hq', rfl⟩ := of_mem_mapPortions hq
  obtain ⟨p, hp, same⟩ := h d q' hq'
  refine ⟨p, hp, ?_⟩
  split
  · exact same
  · exact same

theorem from_last : OrdersLast (From s) where
  quiet touched h := by unfold From; rw [touched.same .orders]; exact h
  freed := id
  returned h := h.mapPortions
  granted {t b v w} h _ := From.mapPortions (t := t.installGrant b w) (by unfold From; rw [installGrant_orders]; exact h)
  ended h := h.mapPortions
  tested h d := testOrder_districts (D := fun y => ∀ q ∈ y.queue, ∃ p ∈ s.orders.districts[d].queue, { q with state := p.state } = p)
    (fun _ h q hq => h q (List.mem_filter.1 hq).1) (fun _ h _ => h) (h d)

/-- The names of the portions with no intake left. -/
def LostNames (s : State) (i : IntakeId) : Names :=
  fun x tag b => ∃ p ∈ s.orders.districts[x].queue, p.tag = tag ∧ p.bay = b ∧ Lost s i p

theorem jam_lostNames (running : s.isRunning) (named : PortionsNamed s) :
    AllEnded (NamedBy (LostNames s i)) ((s.jam i).settle s {}) := by
  have loss : AllEnded (NamedBy (LostNames s i)) (lossState s i) := by
    rintro x q hq ⟨p, hp, tag, bay, lost⟩
    rw [lossState_unique named hp hq tag.symm bay.symm]
    cases fresh : p.isEnded
    · rw [lossOf_lost fresh lost]
      rfl
    · unfold lossOf
      rw [if_neg fun c => by simp [gateFaulted_iff, fresh] at c]
      exact fresh
  have begun : Over (LostNames s i) (fun _ => True) (examinedState s i) :=
    ⟨examinedState_keeps_any allEnded_tested loss, fun _ _ _ _ => trivial⟩
  exact (jam_lasts running over_lasts.lasts begun).1

theorem jam_from (running : s.isRunning) : From s ((s.jam i).settle s {}) := by
  refine jam_lasts running from_last.lasts (examinedState_keeps_any from_last.tested fun d q hq => ?_)
  obtain ⟨p, hp, rfl⟩ := of_mem_lossState hq
  refine ⟨p, hp, ?_⟩
  unfold lossOf
  split <;> rfl

/-- No portion that names the intake is left open with all its intakes faulted (R79). -/
theorem jam_allEnded (running : s.isRunning) (named : PortionsNamed s)
    (hq : q ∈ ((s.jam i).settle s {}).orders.districts[d].queue) (lost : Lost s i q) : q.isEnded = true := by
  obtain ⟨p, hp, same⟩ := jam_from running d q hq
  refine jam_lostNames running named d q hq ⟨p, hp, ?_, ?_, ?_⟩
  · rw [← same]
  · rw [← same]
  · rw [← same]
    exact lost

end Sys2Proof.Safety
end

section
/-! SUPPORT. TRAVEL_LIMIT_EXPIRY (R62, R79, R146, R150, R154): a jam in CHECKING, and the obligation. -/

-- One proof after another, as in Laws: in parallel, the threads of so many outgrow the memory the check allows.
set_option Elab.async false

namespace Sys2Proof.Safety

open Sys2Proof Sys2Proof.Machine

variable {s t old : State} {i : IntakeId} {d : DistrictId} {x : Settling}

/-! ## CHECKING -/

/-- In CHECKING, with a pump still OFFLINE and no report left, there is nothing to settle (R124, R126, R179). -/
theorem settle_still (shut : ¬s.isRunning) (checking : ∃ p : PumpId, s.pumps[p].state = .offline) (empty : s.reports = []) :
    s.settle old x = s := by
  have stays : s.leaveChecking = s := by
    obtain ⟨p, offline⟩ := checking
    refine if_neg fun c => ?_
    have on : (s.pumps[p].state != .offline) = true := List.all_eq_true.1 c.2.2 p (mem_allPumps p)
    rw [offline] at on
    cases on
  have held : s.holdCeiling = s := if_neg shut
  have called : s.callPumps old x.callAll = s := State.each_idle fun p _ => if_neg fun c => shut c.1
  have considered : s.considerStart x.stopped = s := by
    have none : s.pickStart x.stopped = none := by
      unfold State.pickStart
      rw [List.filter_eq_nil_iff.2 fun p _ => by simp [State.isCandidate, shut]]
      rfl
    unfold State.considerStart
    rw [none]
    split <;> rfl
  have cleared : s.withReports [] = s := by
    rw [← empty]
    rfl
  rw [State.settle, State.judgeReports_idle shut, stays, State.settleRoster]
  rw [held, called, considered, ite_self, State.takeReports_idle shut, cleared]

theorem setOrders_self : s.setOrders d s.orders.districts[d] = s := by
  have same : s.orders.districts.set d s.orders.districts[d] = s.orders.districts := by simp
  unfold State.setOrders
  rw [same]
  rfl

/-- With no order held there is nothing to lose, to test or to close (R70). -/
theorem jam_still (shut : ¬s.isRunning)
    (none : ∀ d : DistrictId, s.orders.districts[d].table = [] ∧ s.orders.districts[d].queue = []) : s.jam i = markedState s i := by
  have empty : ∀ d : DistrictId, (markedState s i).orders.districts[d].table = [] ∧ (markedState s i).orders.districts[d].queue = [] := none
  have closings : jamClosings s i = [] := by
    refine List.filterMap_eq_nil_iff.2 fun b _ => Option.bind_eq_none_iff.2 fun g _ => Option.bind_eq_none_iff.2 fun p found => ?_
    have mem := List.mem_of_find?_eq_some found
    rw [(empty _).2] at mem
    cases mem
  have loss : lossState s i = markedState s i := by
    refine State.each_idle fun d _ => ?_
    unfold State.mapPortions
    rw [(empty d).2, List.map_nil, ← (empty d).2]
    exact setOrders_self
  have examined : examinedState s i = markedState s i := by
    unfold examinedState
    rw [loss]
    refine State.each_idle fun d _ => ?_
    unfold State.testOrders
    rw [(empty d).1]
    rfl
  have quiet : ¬(markedState s i).isRunning := shut
  rw [jam_eq, closings, examined]
  unfold tellJam
  rw [show (markedState s i).closeGrants [] false = markedState s i from rfl, State.raiseStation, if_neg quiet]
  refine State.each_idle fun d _ => ?_
  split
  · exact if_neg fun c => quiet c.1
  · rfl

/-! ## The obligation -/

/-- A portion that is not lost keeps its place: IN SERVICE as it was, or PENDING until it wins its bay (R79, R90). -/
theorem jam_open {p : Portion} (running : s.isRunning) (named : PortionsNamed s) (pumps : ServingPumpsSound s)
    (member : p ∈ s.orders.districts[d].queue) (fresh : p.isEnded = false) (kept : ¬Lost s i p) :
    ∃ q ∈ ((s.jam i).settle s {}).orders.districts[d].queue, { q with state := p.state } = p
      ∧ (p.state = .inService → q.state = .inService)
      ∧ (p.state = .pending →
          q.state = .pending ∨ (q.state = .inService ∧ ∃ h ∈ ((s.jam i).settle s {}).grantOf p.bay, HeldBy d p h)) := by
  cases state : p.state with
  | ended v => simp [Portion.isEnded, state] at fresh
  | inService =>
    refine ⟨p, (jam_serving named member running pumps kept state).member, ?_, fun _ => state, fun no => nomatch no⟩
    rw [← state]
  | pending =>
    obtain waits | ⟨serves, -, held⟩ := jam_waiting running pumps member kept state
    · refine ⟨_, waits, ?_, (fun no => nomatch no), fun _ => .inl rfl⟩
      rw [← state]
    · refine ⟨_, serves, ?_, (fun _ => rfl), fun _ => .inr ⟨rfl, held⟩⟩
      rw [← state]

theorem endedAs_of_endedOrSent {p : Portion} (h : EndedOrSent d { p with state := .ended .gateFault }
    { bay := p.bay, target := p.target, outcome := .gateFault, lifted := p.lifted } s) :
    EndedAs d p.tag p.bay p.target .gateFault p.lifted s := by
  obtain member | sent := h
  · exact .inl ⟨_, member, rfl, rfl, rfl, rfl⟩
  · exact .inr sent

/-- Settles O46: what the jam ends has ended before the grants close, and of the bays that then lie free only those can be lost. -/
theorem travelLimitExpiryJamsTheGate : Obligations.TravelLimitExpiryJamsTheGate := by
  unfold Obligations.TravelLimitExpiryJamsTheGate
  intro i s
  refine ⟨exec_travelLimitExpiry_rest, fun travels timer => ⟨fun running => ?_, fun checking offline calm none => ?_⟩⟩
  · refine ⟨_, exec_travelLimitExpiry (.inr running) travels timer, jam_settles_touches running, ?_⟩
    obtain ⟨gate, faulted⟩ := jam_lasts (old := s) running jammedWith_lasts (examinedState_jammed (s := s) (i := i))
    refine ⟨gate, faulted, jam_raised running, fun d owner enabled masked => jam_taken running owner enabled masked,
      fun named d q hq mine all => jam_allEnded running named hq ⟨mine, fun j hj => ?_⟩, fun named pumps _ d p member fresh => ?_⟩
    · have set := all j hj
      rw [faulted] at set
      exact faultedWith_get.1 set
    · refine ⟨fun lost => ⟨endedAs_of_endedOrSent (jam_endedOrSent named member fresh lost running pumps), fun g _ _ h grant held => ?_⟩,
        jam_open running named pumps member fresh, fun kept g grant held => jam_grantStands named member running pumps kept grant held⟩
      exact (jam_over named member fresh lost running).2 p.bay h grant ⟨held.1, held.2, rfl⟩
  · have shut : ¬s.isRunning := fun running => nomatch checking.symm.trans running
    have still : (s.jam i).settle s {} = markedState s i := by
      rw [jam_still shut none]
      exact settle_still shut offline calm.1
    refine ⟨_, exec_travelLimitExpiry (.inl checking) travels timer, ?_⟩
    rw [still]
    exact ⟨markedState_touches, State.setGate_others, State.setGate_self, rfl⟩

end Sys2Proof.Safety
end
